-- ==== Sys2Proof/Word.lean ====
section
/-! DEFINITION. The words the two ports and the drive link carry. -/

namespace Sys2Proof

/-- One byte of a port record (R185: most significant bit first). -/
abbrev Byte := BitVec 8

/-- A zone demand, 0..4095 (R6). -/
abbrev Demand := BitVec 12

/-- A calibration gain, 0..2047, 1024 is unity (R10). -/
abbrev Gain := BitVec 11

end Sys2Proof
end

