-- ==== Sys2Proof/Syntax.lean ====
section
/-! DEFINITION. The commands and events of the JD2560: one constructor for each row of spec/opcode_table.json.
A port command carries its fields as the wire carries them (R186, R187), and a picture command whether a reset cut
its frame before the command was judged (R160). A link ending carries what the line carried: what the JD2560 sampled
and the width of the stop pulse (R133). A pin edge carries the time at which it is taken and how long the levels
held (R189). An operand with a default names the unusual case: a frame that no reset cut, a stop pulse of 2 periods,
a high level long enough to be taken and FSYNC high after a reset go without saying. -/

namespace Sys2Proof

/-- What the JD2560 samples after an addressed message: the turnaround period and the two status periods (R125). -/
structure LinkStatus where
  /-- The turnaround period was sampled high. -/
  turnaroundHigh : Bool
  /-- The two status periods, the first in the upper bit. -/
  status : BitVec 2
  deriving DecidableEq, Repr

/-- The steps of the part. -/
inductive Instr where
  /-- WRITE_DEMAND (R8): the position field of the header. `cut`, here and in the picture commands below: a reset was
  taken while the chip-select frame was open and before this command was judged, so the frame is ignored (R160, log
  entry 24). -/
  | writeDemand (position : BitVec 16) (cut : Bool := false)
  /-- DEMAND_VALUE (R9): one whole demand value. -/
  | demandValue (value : Demand)
  /-- PICTURE_WRITE_GAIN (R12): set byte and position field. -/
  | pictureWriteGain (set : Byte) (position : BitVec 16) (cut : Bool := false)
  /-- PICTURE_GAIN_VALUE (R164): the two bytes of one gain. -/
  | pictureGainValue (value : BitVec 16)
  /-- CLOSE_FRAME (R22): every whole byte of the frame after the command byte (R163). -/
  | closeFrame (record : List Byte) (cut : Bool := false)
  /-- PICTURE_READ_MAP (R165): bank byte, start zone field, count field. -/
  | pictureReadMap (bank : Byte) (start count : BitVec 16) (cut : Bool := false)
  /-- PICTURE_READ_STATUS (R168). -/
  | pictureReadStatus (cut : Bool := false)
  /-- PICTURE_READ_GAIN (R164): set byte, start zone field, count field. -/
  | pictureReadGain (set : Byte) (start count : BitVec 16) (cut : Bool := false)
  /-- PICTURE_UNKNOWN_COMMAND (R160): the command byte, which names no command. -/
  | pictureUnknownCommand (command : Byte)
  /-- SET_GRID (R2): parameter bytes, as many as the transaction carried (so for each command below). -/
  | setGrid (params : List Byte)
  /-- LOAD_DRIVER (R102). -/
  | loadDriver (params : List Byte)
  /-- SET_BUDGET (R49). -/
  | setBudget (params : List Byte)
  /-- SET_SLEW (R177). -/
  | setSlew (params : List Byte)
  /-- SET_DERATE (R147). -/
  | setDerate (params : List Byte)
  /-- SET_SCAN (R87). -/
  | setScan (params : List Byte)
  /-- SET_LINK (R134). -/
  | setLink (params : List Byte)
  /-- SET_LOSS (R80). -/
  | setLoss (params : List Byte)
  /-- SUPERVISOR_WRITE_GAIN (R13). -/
  | supervisorWriteGain (params : List Byte)
  /-- SELECT_GAIN_SET (R11). -/
  | selectGainSet (params : List Byte)
  /-- LOCK_RANGE (R16). -/
  | lockRange (params : List Byte)
  /-- ZONE_ENABLE (R17). -/
  | zoneEnable (params : List Byte)
  /-- CLEAR_FAULT (R18). -/
  | clearFault (params : List Byte)
  /-- START (R179); it has no parameter, and bytes beyond are ignored (R173). -/
  | start (params : List Byte)
  /-- STOP (R180). -/
  | stop (params : List Byte)
  /-- REARM (R182). -/
  | rearm (params : List Byte)
  /-- SOFT_RESET (R183). -/
  | softReset (params : List Byte)
  /-- ACK_ALERT (R150). -/
  | ackAlert (params : List Byte)
  /-- PROBE (R116). -/
  | probe (params : List Byte)
  /-- SUPERVISOR_READ_STATUS (R175). -/
  | supervisorReadStatus (params : List Byte)
  /-- POP_EVENT (R156). -/
  | popEvent (params : List Byte)
  /-- READ_DRIVER (R176). -/
  | readDriver (params : List Byte)
  /-- SUPERVISOR_READ_MAP (R176). -/
  | supervisorReadMap (params : List Byte)
  /-- READ_POWER (R62). -/
  | readPower (params : List Byte)
  /-- SUPERVISOR_READ_GAIN (R14). -/
  | supervisorReadGain (params : List Byte)
  /-- SUPERVISOR_UNKNOWN_COMMAND (R173): the command byte, which names no command. -/
  | supervisorUnknownCommand (command : Byte)
  /-- FSYNC_FALLING_EDGE (R65): time in µs, reference periods for which the low level after the edge held, and for
  which the high level before it held (R189); the rising edge before it has no row of its own. -/
  | fsyncFallingEdge (time held : Nat) (high : Nat := 4)
  /-- HOLD_RISE (R68): time in µs, and reference periods for which the new level held (R189). -/
  | holdRise (time held : Nat)
  /-- HOLD_FALL (R69). -/
  | holdFall (time held : Nat)
  /-- KILL_FALLING_EDGE (R181). -/
  | killFallingEdge (held : Nat)
  /-- KILL_RISING_EDGE (R181). -/
  | killRisingEdge (held : Nat)
  /-- POWER_ON_RESET (R184): the address straps, and the levels of HOLD, KILL and FSYNC as the reset
  ends. -/
  | powerOnReset (straps : BitVec 2) (holdHigh killHigh : Bool) (fsyncHigh : Bool := true)
  /-- RESET_GAP_END (R141). -/
  | resetGapEnd
  /-- LOSS_TIMER_EXPIRY (R82). -/
  | lossTimerExpiry
  /-- INTERNAL_FRAME_START (R83). -/
  | internalFrameStart
  /-- POLL_TIMER_EXPIRY (R135). -/
  | pollTimerExpiry
  /-- LATCH_DUE (R90). -/
  | latchDue
  /-- PASS1_ZONE (R29). -/
  | pass1Zone
  /-- FACTOR_STEP (R37). -/
  | factorStep
  /-- PASS2_ZONE (R38). -/
  | pass2Zone
  /-- TRANSMIT_CHOICE (R131). -/
  | transmitChoice
  /-- ATTENTION_START (R137). -/
  | attentionStart
  /-- ARBITRATION_END (R138): the eight arbitration periods as sampled, the first in the top bit. `wide`, here and in
  the endings below: the stop pulse was 3 periods wide, not 2 (R133). -/
  | arbitrationEnd (sampled : BitVec 8) (wide : Bool := false)
  /-- LEVEL_ENDING (R110). -/
  | levelEnding (status : LinkStatus) (wide : Bool := false)
  /-- LATCH_ENDING (R91): the first status period was sampled low, an error report (R127). -/
  | latchEnding (errorReport : Bool) (wide : Bool := false)
  /-- BLANK_ENDING (R127). -/
  | blankEnding (errorReport : Bool) (wide : Bool := false)
  /-- DISCOVERY_CONFIG_ENDING (R106). -/
  | discoveryConfigEnding (status : LinkStatus) (wide : Bool := false)
  /-- PROBE_CONFIG_ENDING (R117). -/
  | probeConfigEnding (status : LinkStatus) (wide : Bool := false)
  /-- READ_ENDING (R144): the status, and the periods of the response in the order sampled (R128). -/
  | readEnding (status : LinkStatus) (response : List Bool) (wide : Bool := false)
  /-- POLL_ENDING (R136): bit a is set when the slot of address a was read low. -/
  | pollEnding (lowSlots : BitVec 63) (wide : Bool := false)
  /-- ATTENTION_WINDOW (R139): a window that was not sampled, or not sampled low. -/
  | attentionWindow
  deriving DecidableEq, Repr

end Sys2Proof
end

