-- ==== Sys2Proof/WellFormed.lean ====
section
/-! DEFINITION. Which commands the wire can spell: the two rows for unknown command bytes carry a byte that
names no command. Every other row takes every value of its operands. -/

namespace Sys2Proof

/-- The command bytes of the picture port (R160). -/
def pictureCodes : List Byte := [0x21, 0x2C, 0x41, 0x4F, 0x61, 0x62]

/-- The command bytes of the supervisor port (R173). -/
def supervisorCodes : List Byte :=
  [0x10, 0x11, 0x20, 0x21, 0x22, 0x23, 0x24, 0x25, 0x30, 0x31, 0x32, 0x33, 0x34,
    0x40, 0x41, 0x42, 0x4F, 0x50, 0x51, 0x80, 0x81, 0x82, 0x83, 0x84, 0x85]

/-- The checks a command must pass to be one that can arrive. -/
def Instr.wellFormed : Instr → Bool
  | .pictureUnknownCommand c => !pictureCodes.contains c
  | .supervisorUnknownCommand c => !supervisorCodes.contains c
  | _ => true

end Sys2Proof
end

