-- ==== Sys2Proof/Decode.lean ====
section
/-! DEFINITION. From what a host clocks in to commands: the levels of the picture port's wires, the whole bytes of one
chip-select frame (R160 to R164, R186) and the frame that a reset cuts (R160); the levels of the two-wire bus, its
transactions (R172) and the bytes of one write transaction (R173, R187); and back. The opcode table gives no row any
bits, so no table word spells a command. -/

namespace Sys2Proof

/-- The command that a word spells by the table's bits: the table gives bits to no row. -/
def decodeTableWord (_nbits _w : Nat) : Option Instr := none

/-! ### The picture port -/

/-- The whole bytes of a run of bits, the first of each the most significant; a byte left incomplete is discarded
(R160). -/
def wholeBytes : List Bool → List Byte
  | a :: b :: c :: d :: e :: f :: g :: h :: rest =>
    (BitVec.ofBool a ++ BitVec.ofBool b ++ BitVec.ofBool c ++ BitVec.ofBool d ++ BitVec.ofBool e ++ BitVec.ofBool f
      ++ BitVec.ofBool g ++ BitVec.ofBool h) :: wholeBytes rest
  | _ => []

/-- The levels of chip select, clock and data in (R160). -/
structure PictureWires where
  csn : Bool
  sck : Bool
  sdi : Bool
  deriving DecidableEq, Repr

/-- The bits of each chip-select frame that these levels close, after earlier levels and with the bits so far of the
frame in progress: a frame begins as chip select falls and ends as it rises, and within it data in is sampled at each
rising clock edge (R160). -/
def pictureFrames : PictureWires → Option (List Bool) → List PictureWires → List (List Bool)
  | _, _, [] => []
  | p, open?, q :: rest =>
    if q.csn then (if p.csn then [] else open?.toList) ++ pictureFrames q none rest
    else if p.csn then pictureFrames q (some []) rest
    else pictureFrames q (open?.map fun bits => if !p.sck && q.sck then bits ++ [q.sdi] else bits) rest

/-- Demand values packed two to every three bytes; a split value at the end is discarded (R9, R162, R186). -/
def demandValues : List Byte → List Demand
  | a :: b :: c :: rest => (a ++ b.extractLsb' 4 4) :: (b.extractLsb' 0 4 ++ c) :: demandValues rest
  | [a, b] => [a ++ b.extractLsb' 4 4]
  | _ => []

/-- The bytes that carry these demand values, the last padded with zero bits when their number is odd (R186). -/
def demandBytes : List Demand → List Byte
  | u :: v :: rest =>
    u.extractLsb' 4 8 :: (u.extractLsb' 0 4 ++ v.extractLsb' 8 4) :: v.extractLsb' 0 8 :: demandBytes rest
  | [u] => [u.extractLsb' 4 8, u.extractLsb' 0 4 ++ (0 : BitVec 4)]
  | [] => []

/-- Gain values, two bytes each; a single trailing byte is discarded (R12, R164). -/
def gainWords : List Byte → List (BitVec 16)
  | a :: b :: rest => (a ++ b) :: gainWords rest
  | _ => []

/-- The commands that one chip-select frame with these whole bytes brings, in order. A frame that ends before
its header is whole brings none (R161). -/
def pictureFrame : List Byte → List Instr
  | [] => []
  | c :: rest =>
    if c = 0x21 then
      match rest with
      | h :: l :: values => .writeDemand (h ++ l) false :: (demandValues values).map .demandValue
      | _ => []
    else if c = 0x2C then [.closeFrame rest false]
    else if c = 0x41 then
      match rest with
      | b :: h :: l :: m :: n :: _ => [.pictureReadMap b (h ++ l) (m ++ n) false]
      | _ => []
    else if c = 0x4F then [.pictureReadStatus false]
    else if c = 0x61 then
      match rest with
      | b :: h :: l :: values => .pictureWriteGain b (h ++ l) false :: (gainWords values).map .pictureGainValue
      | _ => []
    else if c = 0x62 then
      match rest with
      | b :: h :: l :: m :: n :: _ => [.pictureReadGain b (h ++ l) (m ++ n) false]
      | _ => []
    else [.pictureUnknownCommand c]

/-- The same picture command in a frame that a reset has cut before the command was judged (R160). -/
def Instr.cutByReset : Instr → Instr
  | .writeDemand p _ => .writeDemand p true
  | .pictureWriteGain set p _ => .pictureWriteGain set p true
  | .closeFrame record _ => .closeFrame record true
  | .pictureReadMap bank first count _ => .pictureReadMap bank first count true
  | .pictureReadStatus _ => .pictureReadStatus true
  | .pictureReadGain set first count _ => .pictureReadGain set first count true
  | i => i

/-- The commands judged or handed on while a frame with these whole bytes is still open: a CLOSE FRAME waits for the
end of its frame (R161, R162, R163, R164). -/
def pictureFrameOpen (bytes : List Byte) : List Instr :=
  (pictureFrame bytes).filter fun i => match i with
    | .closeFrame _ _ => false
    | _ => true

/-- What a frame brings in which a reset is taken: with these whole bytes before it and these after it, the commands
judged before the reset stand, and every later one is cut (R160). -/
def pictureFrameReset (before after : List Byte) (reset : Instr) : List Instr :=
  pictureFrameOpen before ++ reset ::
    ((pictureFrame (before ++ after)).drop (pictureFrameOpen before).length).map Instr.cutByReset

/-! ### The supervisor port -/

/-- The levels of the two-wire bus (R172). -/
structure BusWires where
  scl : Bool
  sda : Bool
  deriving DecidableEq, Repr

/-- What the two-wire bus carries (R172). -/
inductive BusMark where
  /-- A fall of SDA while SCL is high; a repeated start while a transaction is open. -/
  | start
  /-- A rise of SDA while SCL is high. -/
  | stop
  /-- A bit, sampled at the rise of SCL. -/
  | bit (high : Bool)
  deriving DecidableEq, Repr

/-- What these levels carry after an earlier one (R172). -/
def busMarks : BusWires → List BusWires → List BusMark
  | _, [] => []
  | p, q :: rest =>
    (if !p.scl && q.scl then [.bit q.sda]
      else if p.scl && q.scl && p.sda && !q.sda then [.start]
      else if p.scl && q.scl && !p.sda && q.sda then [.stop]
      else []) ++ busMarks q rest

/-- The bits of each transaction that these marks close, with the bits so far of the one in progress: a stop condition
or a repeated start closes it (R172). -/
def busTransactions : Option (List Bool) → List BusMark → List (List Bool)
  | _, [] => []
  | open?, .start :: rest => open?.toList ++ busTransactions (some []) rest
  | open?, .stop :: rest => open?.toList ++ busTransactions none rest
  | open?, .bit b :: rest => busTransactions (open?.map fun bits => bits ++ [b]) rest

/-- The bytes of a transaction, each with the level of its ninth clock period: low is an acknowledgement. The address
byte is the first (R172). -/
def busBytes : List Bool → List (Byte × Bool)
  | a :: b :: c :: d :: e :: f :: g :: h :: ack :: rest =>
    (wholeBytes [a, b, c, d, e, f, g, h]).map (fun x => (x, ack)) ++ busBytes rest
  | _ => []

/-- The bits of a byte, most significant first (R172, R185). -/
def byteBits (x : Byte) : List Bool := (List.range 8).map fun k => x.getMsbD k

/-- The bits of these bytes, each followed by the level of its ninth clock period (R172). -/
def busBits : List (Byte × Bool) → List Bool
  | [] => []
  | (x, ack) :: rest => byteBits x ++ ack :: busBits rest

/-- The command that a write transaction with this command byte and these parameter bytes is (R173). -/
def supervisorCommand (c : Byte) (params : List Byte) : Instr :=
  if c = 0x10 then .setGrid params
  else if c = 0x11 then .loadDriver params
  else if c = 0x20 then .setBudget params
  else if c = 0x21 then .setSlew params
  else if c = 0x22 then .setDerate params
  else if c = 0x23 then .setScan params
  else if c = 0x24 then .setLink params
  else if c = 0x25 then .setLoss params
  else if c = 0x30 then .supervisorWriteGain params
  else if c = 0x31 then .selectGainSet params
  else if c = 0x32 then .lockRange params
  else if c = 0x33 then .zoneEnable params
  else if c = 0x34 then .clearFault params
  else if c = 0x40 then .start params
  else if c = 0x41 then .stop params
  else if c = 0x42 then .rearm params
  else if c = 0x4F then .softReset params
  else if c = 0x50 then .ackAlert params
  else if c = 0x51 then .probe params
  else if c = 0x80 then .supervisorReadStatus params
  else if c = 0x81 then .popEvent params
  else if c = 0x82 then .readDriver params
  else if c = 0x83 then .supervisorReadMap params
  else if c = 0x84 then .readPower params
  else if c = 0x85 then .supervisorReadGain params
  else .supervisorUnknownCommand c

/-- The commands that one write transaction brings: one, or none when only the address byte was sent (R172). -/
def supervisorTransaction : List Byte → List Instr
  | [] => []
  | c :: params => [supervisorCommand c params]

/-- The address byte carries this seven-bit address (R172). -/
def Byte.addresses (a : Byte) (addr : Nat) : Bool := decide ((a.extractLsb' 1 7).toNat = addr)

/-- The commands that one closed transaction brings to the port with this seven-bit address: those of a write
transaction that is addressed to it; a read transaction and one for another address bring none (R172, R173, R174). -/
def busCommands (addr : Nat) (transaction : List Bool) : List Instr :=
  match (busBytes transaction).map Prod.fst with
  | a :: bytes => if a.addresses addr && !a.getLsbD 0 then supervisorTransaction bytes else []
  | [] => []

/-- The bytes that the port sends in a transaction whose first bits are these, by the acknowledgements that the
controller has given to the bytes before: after the address byte of a read transaction for the port, one for each byte
it acknowledged and the first (R172). -/
def busBytesSent (addr : Nat) (transaction : List Bool) : Nat :=
  match busBytes transaction with
  | (a, _) :: rest =>
    if a.addresses addr && a.getLsbD 0 then ((rest.map Prod.snd).takeWhile fun ack => !ack).length + 1 else 0
  | [] => 0

/-- The bytes of the write transaction that is this supervisor command (R173, R187). -/
def supervisorBytes : Instr → Option (List Byte)
  | .setGrid p => some (0x10 :: p)
  | .loadDriver p => some (0x11 :: p)
  | .setBudget p => some (0x20 :: p)
  | .setSlew p => some (0x21 :: p)
  | .setDerate p => some (0x22 :: p)
  | .setScan p => some (0x23 :: p)
  | .setLink p => some (0x24 :: p)
  | .setLoss p => some (0x25 :: p)
  | .supervisorWriteGain p => some (0x30 :: p)
  | .selectGainSet p => some (0x31 :: p)
  | .lockRange p => some (0x32 :: p)
  | .zoneEnable p => some (0x33 :: p)
  | .clearFault p => some (0x34 :: p)
  | .start p => some (0x40 :: p)
  | .stop p => some (0x41 :: p)
  | .rearm p => some (0x42 :: p)
  | .softReset p => some (0x4F :: p)
  | .ackAlert p => some (0x50 :: p)
  | .probe p => some (0x51 :: p)
  | .supervisorReadStatus p => some (0x80 :: p)
  | .popEvent p => some (0x81 :: p)
  | .readDriver p => some (0x82 :: p)
  | .supervisorReadMap p => some (0x83 :: p)
  | .readPower p => some (0x84 :: p)
  | .supervisorReadGain p => some (0x85 :: p)
  | .supervisorUnknownCommand c => some [c]
  | _ => none

/-- The bytes of the chip-select frame, up to the point at which it is judged, of this picture command (R160,
R161, R186); a demand or gain value belongs to the frame of its header. -/
def pictureBytes : Instr → Option (List Byte)
  | .writeDemand p false => some [0x21, p.extractLsb' 8 8, p.extractLsb' 0 8]
  | .closeFrame record false => some (0x2C :: record)
  | .pictureReadMap bank first count false =>
    some [0x41, bank, first.extractLsb' 8 8, first.extractLsb' 0 8, count.extractLsb' 8 8, count.extractLsb' 0 8]
  | .pictureReadStatus false => some [0x4F]
  | .pictureWriteGain set p false => some [0x61, set, p.extractLsb' 8 8, p.extractLsb' 0 8]
  | .pictureReadGain set first count false =>
    some [0x62, set, first.extractLsb' 8 8, first.extractLsb' 0 8, count.extractLsb' 8 8, count.extractLsb' 0 8]
  | .pictureUnknownCommand c => some [c]
  | _ => none

/-- The bytes that carry these gain words (R186). -/
def gainWordBytes : List (BitVec 16) → List Byte
  | [] => []
  | w :: rest => w.extractLsb' 8 8 :: w.extractLsb' 0 8 :: gainWordBytes rest

end Sys2Proof
end

