-- ==== Sys2Proof/Config.lean ====
section
/-! DEFINITION. What the JD2560 fixes: capacities, limits and times, each from the rule named. The manual
leaves no result open, so there is no free value here. -/

namespace Sys2Proof.Config

/-- Entries of every per-zone store (R1). -/
abbrev maxZones : Nat := 2560
/-- Entries of the Driver Table and of the thermal records (R101, R143). -/
abbrev drivers : Nat := 48
/-- Lock-range slots (R15). -/
abbrev lockSlots : Nat := 8
/-- Records the event queue holds at most (R153). -/
abbrev eventCapacity : Nat := 32
/-- The largest domain budget, 2,560 × 4,095 (R49). -/
abbrev maxBudget : Nat := 10483200
/-- A factor that leaves levels as they are (R37). -/
abbrev unity : Nat := 4096
/-- Zone full scale (R32). -/
abbrev fullScale : Nat := 4095
/-- An edge closer than this to the reference is a runt, in µs (R66). -/
abbrev runtLimit : Nat := 4000
/-- The free-run period, and Tf until a frame has been measured, in µs (R67, R82). -/
abbrev freeRunPeriod : Nat := 16667
/-- The ends of the range a solve clamps Tf to, in µs (R25). -/
abbrev tfMin : Nat := 6944
abbrev tfMax : Nat := 20833
/-- The frame time the slew steps are given for, in µs (R33). -/
abbrev slewFrame : Nat := 8333
/-- One step of the loss timeout, in µs (R80). -/
abbrev lossStep : Nat := 25000
/-- Zones a pass handles in one microsecond (R21). -/
abbrev zonesPerMicrosecond : Nat := 32
/-- Reference periods for which a pin level must hold to be taken (R189). -/
abbrev pinFilter : Nat := 4
/-- LEVEL messages of one map that one driver is offered at most (R110). -/
abbrev attempts : Nat := 3
/-- Missed commits that make a driver UNREACHABLE (R112). -/
abbrev missLimit : Nat := 4
/-- Resends of a broadcast at most (R127). -/
abbrev resends : Nat := 2
/-- Invalid reads in a row that make a driver blind (R146). -/
abbrev blindRun : Nat := 8
/-- The hysteresis of the thermal alert, in °C (R149). -/
abbrev hysteresis : Int := 5

end Sys2Proof.Config
end

