-- ==== Sys2Proof/Machine/State.lean ====
section
/-! DEFINITION. The state of the JD2560, block by block as spec/00_scope.md section 3 lists the blocks, and the
machine right after power-on reset. Plain data throughout. -/

namespace Sys2Proof.Machine

open Sys2Proof

/-! ### Tables and domains -/

/-- A table by index, as (index, value) pairs with the index strictly rising and no value equal to the table's
default. What an unlisted index holds is the default, the value the spec gives it at power-on reset. -/
structure Store (α : Type) where
  cells : List (Nat × α)
  deriving DecidableEq, Repr

/-- One value for each of the four power domains (R48). -/
structure PerDomain (α : Type) where
  d0 : α
  d1 : α
  d2 : α
  d3 : α
  deriving DecidableEq, Repr

/-- One of the four power domains (R48). -/
abbrev Domain := Fin 4

/-! ### Zone Store -/

/-- One of the two calibration gain sets (R10). -/
inductive GainSet | a | b
  deriving DecidableEq, Repr

/-- The three write orders (R4). -/
inductive WriteOrder | raster | serpentine | quad
  deriving DecidableEq, Repr

/-- A lock range, both ends included (R15). -/
structure ZoneRange where
  first : Nat
  last : Nat
  deriving DecidableEq, Repr

/-- The Zone Store (chapter 1). -/
structure ZoneStore where
  /-- Column count C (R1). -/
  cols : Nat
  /-- Row count R (R1). -/
  rows : Nat
  /-- Demand bank, default 0 (R6). -/
  demand : Store Demand
  /-- Demand store state: true is OPEN (R7). -/
  storeOpen : Bool
  /-- Gain set A, default 1024 (R10). -/
  gainA : Store Gain
  /-- Gain set B, default 1024 (R10). -/
  gainB : Store Gain
  /-- Live-set selector (R11). -/
  liveSet : GainSet
  /-- Zone enables, default on (R17). -/
  enable : Store Bool
  /-- Fault marks, default clear (R18). -/
  fault : Store Bool
  /-- Lock-range slots 0..7, default empty (R15). -/
  locks : Store (Option ZoneRange)
  deriving DecidableEq, Repr

/-! ### Map Banks -/

/-- A frame tag: epoch bit and 7-bit count (00_scope section 5.4). -/
structure Tag where
  epoch : Bool
  count : BitVec 7
  deriving DecidableEq, Repr

/-- A zone record of a bank (R70, R40). -/
structure ZoneRecord where
  level : Nat
  slewed : Nat
  residual : Nat
  code : Nat
  held : Bool
  fault : Bool
  focus : Bool
  inactive : Bool
  deriving DecidableEq, Repr

/-- A domain record of a bank (R60). -/
structure DomainRecord where
  kn : Nat
  kf : Nat
  levelSum : Nat
  budget : Nat
  deriving DecidableEq, Repr

/-- One map bank (R70). -/
structure Bank where
  zones : Store ZoneRecord
  domains : PerDomain DomainRecord
  tag : Tag
  deriving DecidableEq, Repr

/-- The pending state (R73). -/
inductive PendState | empty | solving | solved | shipped
  deriving DecidableEq, Repr

/-- The pending source (R72). -/
inductive PendSource | ordinary | pictureInLoss
  deriving DecidableEq, Repr

/-- The Map Banks (section 4.3): the bank in each role, and what goes with the PENDING role. -/
structure MapBanks where
  active : Bank
  pendingBank : Bank
  pend : PendState
  source : PendSource
  deriving DecidableEq, Repr

/-! ### Frame Solver -/

/-- The solve state (R20). -/
inductive SolvePhase | idle | pass1 | factor | pass2
  deriving DecidableEq, Repr

/-- The solve kind (R24). -/
inductive SolveKind | picture | loss
  deriving DecidableEq, Repr

/-- A focus window, both corners included (R51). -/
structure Window where
  firstCol : Nat
  firstRow : Nat
  lastCol : Nat
  lastRow : Nat
  deriving DecidableEq, Repr

/-- The values copied at solve start (R25). -/
structure SolveParams where
  gainSet : GainSet
  rise : Nat
  fall : Nat
  tf : Nat
  sceneCut : Bool
  windows : List Window
  lossLevel : Nat
  deriving DecidableEq, Repr

/-- The rectangle of zones a driver serves (R101). -/
structure Tile where
  col : Nat
  row : Nat
  width : Nat
  height : Nat
  deriving DecidableEq, Repr

/-- One driver of the snapshot taken at solve start (R28). -/
structure SnapEntry where
  index : Nat
  tile : Tile
  domain : Domain
  unreachable : Bool
  deriving DecidableEq, Repr

/-- The sums of one domain: Hd, Fd, Nd, and the level sum of the active zones in pass 2 (R24). -/
structure DomainSums where
  carried : Nat
  focus : Nat
  nonFocus : Nat
  level : Nat
  deriving DecidableEq, Repr

/-- What the factor step copies on entry: budget, recovery step and the factors of ACTIVE (R37, R53). -/
structure FactorInput where
  budget : Nat
  recovery : Nat
  prevN : Nat
  prevF : Nat
  deriving DecidableEq, Repr

/-- The two factors of a domain (R56). -/
structure Factors where
  kn : Nat
  kf : Nat
  deriving DecidableEq, Repr

/-- The Frame Solver (chapter 2). -/
structure Solver where
  phase : SolvePhase
  kind : SolveKind
  /-- The result of the solve in flight is to be discarded (R46). -/
  voided : Bool
  /-- The next zone pass 1 or pass 2 will handle. -/
  cursor : Nat
  /-- The time of the solve start, for R21. -/
  startTime : Nat
  params : SolveParams
  snapshot : List SnapEntry
  sums : PerDomain DomainSums
  inputs : PerDomain FactorInput
  factors : PerDomain Factors
  deriving DecidableEq, Repr

/-! ### Frame Timing Unit -/

/-- Free-run (R82): off, on and paused by HOLD (R68), or on with the time of the next internal frame start. -/
inductive FreeRun where
  | off
  | paused
  | running (next : Nat)
  deriving DecidableEq, Repr

/-- A running scan schedule (R89). -/
structure Schedule where
  tag : Tag
  bands : Nat
  base : Nat
  step : Nat
  commitTime : Nat
  cursor : Nat
  ended : Nat
  deriving DecidableEq, Repr

/-- The Frame Timing Unit (chapters 4 and 5). -/
structure FrameTiming where
  /-- Edge reference (R66). -/
  edgeRef : Option Nat
  /-- Measured frame time in µs (R67). -/
  tf : Nat
  /-- The loss timer: stopped, or the time at which it started from 0 (R81). -/
  lossTimer : Option Nat
  freeRun : FreeRun
  /-- The scan schedule: none is IDLE (R89). -/
  schedule : Option Schedule
  /-- The shipping gate: true is OPEN (R97). -/
  gateOpen : Bool
  /-- The level of the HOLD pin as taken: true is high (R68, R189). -/
  hold : Bool
  /-- The level of the FSYNC pin as taken: true is high (R65, R189). -/
  fsync : Bool
  deriving DecidableEq, Repr

/-! ### Driver Table -/

/-- The state of a present entry (R104). -/
inductive DriverState | unprobed | reachable | failing | unreachable
  deriving DecidableEq, Repr

/-- A present entry of the Driver Table (R101), with its failed-this-frame mark (R109). -/
structure DriverEntry where
  addr : Nat
  tile : Tile
  domain : Domain
  pwm : Nat
  current : Nat
  state : DriverState
  misses : Nat
  attempts : Nat
  failed : Bool
  deriving DecidableEq, Repr

/-- The Driver Table (chapter 6). -/
structure DriverTable where
  /-- Entries 0..47, default absent (R101). -/
  entries : Store (Option DriverEntry)
  /-- The shipping round's list, while a round belongs to the pending map (R109, R112). -/
  round : Option (List Nat)
  /-- The rotation cursor (R115). -/
  rotation : Option Nat
  /-- The entry whose discovery work is under way (R105). -/
  discovery : Option Nat
  /-- The entries whose probe is outstanding (R116). -/
  probes : List Nat
  deriving DecidableEq, Repr

/-! ### Drive Link Controller -/

/-- Who asked for a READ (R122). -/
inductive ReadAsker | attention | discovery | probe | rotation
  deriving DecidableEq, Repr

/-- A message of the JD2560 (R122), with the entry it is for. -/
inductive Message where
  | level (entry addr : Nat) (tag : Tag) (codes : List Nat)
  | latch (tag : Tag) (band : Nat)
  | blank
  | config (entry addr pwm current width height : Nat) (forProbe : Bool)
  | read (entry addr : Nat) (asker : ReadAsker)
  | poll
  deriving DecidableEq, Repr

/-- A message on the line or awaiting its resend. -/
structure InFlight where
  msg : Message
  /-- The owner's claim stands (R126). -/
  claim : Bool
  /-- Resends so far, 0..2 (R127). -/
  resends : Nat
  /-- The entry has not been loaded or made absent since the message began (R144). -/
  entryKept : Bool
  deriving DecidableEq, Repr

/-- The line state (R121): IDLE, MESSAGE with the message in flight, or ARBITRATION. -/
inductive Line where
  | idle
  | message (m : InFlight)
  | arbitration
  deriving DecidableEq, Repr

/-- The link rate (R120). -/
inductive LinkRate | mhz20 | mhz10
  deriving DecidableEq, Repr

/-- The link mode (R133). -/
inductive LinkMode | quiet | polled
  deriving DecidableEq, Repr

/-- The Drive Link Controller (chapter 7). -/
structure Link where
  line : Line
  /-- Idle periods since the last stop pulse (R121). -/
  idlePeriods : Nat
  /-- In the gap after power-on reset (R141). -/
  resetGap : Bool
  /-- The broadcast awaiting resend (R127). -/
  resend : Option InFlight
  /-- The transmit queue, in the order in which it is served (R130). -/
  queue : List Message
  /-- Rate setting (R134). -/
  rate : LinkRate
  /-- The rate in force on the line (R120). -/
  lineRate : LinkRate
  /-- Mode setting (R133). -/
  mode : LinkMode
  /-- Line mode: the mode the drivers were last told (R133). -/
  lineMode : LinkMode
  /-- The mode setting has changed since the message or arbitration on the line began, so its stop pulse may be of
  either width (R133). -/
  modeMoved : Bool
  /-- Poll interval in ms (R134). -/
  pollInterval : Nat
  /-- The poll timer: stopped, or the time at which it started from 0 (R135). -/
  pollTimer : Option Nat
  attentionHold : Bool
  deriving DecidableEq, Repr

/-! ### Thermal and Event Unit -/

/-- The thermal state of a driver (R149). -/
inductive ThermalState | normal | alert | acknowledged
  deriving DecidableEq, Repr

/-- The attention cause of a READ response (R128). -/
inductive Cause | none | thermal | fault
  deriving DecidableEq, Repr

/-- The thermal record of a driver index (R143). -/
structure ThermalRecord where
  temp : Int
  run : Nat
  cap : Nat
  state : ThermalState
  cause : Cause
  deriving DecidableEq, Repr

/-- The ten event kinds (R153). -/
inductive EventKind
  | driverUnreachable | driverRecovered | thermalAlert | thermalNormal | zoneOpen | zoneShort
  | signalLoss | signalRestored | kill | discoveryEmpty
  deriving DecidableEq, Repr

/-- An event record (R153). -/
structure EventRecord where
  kind : EventKind
  driver : Option Nat
  zone : Option Nat
  value : Option Int
  count : Nat
  tag : Tag
  deriving DecidableEq, Repr

/-- The event queue, oldest record first (R153), and the EVENT-OVERFLOW flag of the supervisor copy (R155). -/
structure EventQueue where
  records : List EventRecord
  overflow : Bool
  deriving DecidableEq, Repr

/-! ### Ports -/

/-- The seven port flags of one copy (R169). -/
structure PortFlags where
  lateWrite : Bool
  closeRefused : Bool
  superseded : Bool
  lateCommit : Bool
  runtFs : Bool
  flushed : Bool
  gainLocked : Bool
  deriving DecidableEq, Repr

/-- The operating state (R178). -/
inductive OpState | standby | discovery | run | safe
  deriving DecidableEq, Repr

/-- The safety latch (section 10.5). -/
inductive SafetyLatch | clear | held | released
  deriving DecidableEq, Repr

/-- The resume target (R181). -/
inductive Resume | standby | discovery
  deriving DecidableEq, Repr

/-- The last result (R173). -/
inductive LastResult | ok | wrongState | range | locked | unknown
  deriving DecidableEq, Repr

/-- The status of a map read (R165). -/
inductive MapStatus | valid | stale | blanked
  deriving DecidableEq, Repr

/-- A map entry (R167). -/
structure MapEntry where
  level : Nat
  held : Bool
  fault : Bool
  focus : Bool
  inactive : Bool
  deriving DecidableEq, Repr

/-- The answer to a READ MAP, copied when it is judged (R166); status none is the all-zero header (R165).
After the listed entries every further byte is 0. -/
structure MapAnswer where
  status : Option MapStatus
  tag : Tag
  entries : List MapEntry
  deriving DecidableEq, Repr

/-- The record of the picture port's READ STATUS (R168). -/
structure PictureStatus where
  storeOpen : Bool
  pend : PendState
  tag : Tag
  tf : Nat
  op : OpState
  flags : PortFlags
  deriving DecidableEq, Repr

/-- The record of the supervisor's READ STATUS (R175). -/
structure SupervisorStatus where
  op : OpState
  lastResult : LastResult
  flags : PortFlags
  overflow : Bool
  tag : Tag
  tf : Nat
  reachable : Nat
  lineMode : LinkMode
  latch : SafetyLatch
  deriving DecidableEq, Repr

/-- What the chip-select frame in progress is doing (R160, R162, R164, R166, R168). -/
inductive PictureFrame where
  /-- Nothing further: no frame, a frame ignored to its end, or an answer of zero bytes. -/
  | nothing
  /-- A taken WRITE DEMAND: its order and the position of the next value. -/
  | writeDemand (order : WriteOrder) (position : Nat)
  /-- A taken WRITE GAIN: its set, its order and the position of the next gain. -/
  | writeGain (set : GainSet) (order : WriteOrder) (position : Nat)
  /-- A READ MAP, served from its copy. -/
  | readMap (answer : MapAnswer)
  /-- A READ STATUS, served from its record. -/
  | readStatus (record : PictureStatus)
  /-- A READ GAIN: each gain is read as it stands when it is sent (R164). -/
  | readGain (set : GainSet) (start count : Nat)
  deriving DecidableEq, Repr

/-- The Picture Port (chapter 9). -/
structure PicturePort where
  flags : PortFlags
  frame : PictureFrame
  deriving DecidableEq, Repr

/-- The copy a read command fixes (R174). -/
inductive ReadRecord where
  | status (record : SupervisorStatus)
  /-- The removed record, or none for a record of kind NONE (R156). -/
  | event (record : Option EventRecord)
  /-- The entry, or none for ABSENT, with the thermal record of the index (R119, R159). -/
  | driver (entry : Option DriverEntry) (thermal : ThermalRecord)
  | map (answer : MapAnswer)
  | power (records : PerDomain DomainRecord)
  | gains (values : List Gain)
  deriving DecidableEq, Repr

/-- Budget and recovery step of one domain (R49). -/
structure BudgetSetting where
  budget : Nat
  recovery : Nat
  deriving DecidableEq, Repr

/-- The derate settings (R147). -/
structure DerateSetting where
  ts : Int
  te : Int
  capmin : Nat
  ta : Int
  deriving DecidableEq, Repr

/-- The scan settings (R87). -/
structure ScanSetting where
  bands : Nat
  base : Nat
  step : Nat
  deriving DecidableEq, Repr

/-- The loss settings (R80). -/
structure LossSetting where
  steps : Nat
  level : Nat
  deriving DecidableEq, Repr

/-- The Supervisor Port (chapter 10); the link settings stand in `Link`. -/
structure SupervisorPort where
  op : OpState
  latch : SafetyLatch
  resume : Resume
  lastResult : LastResult
  readPointer : Option ReadRecord
  flags : PortFlags
  budgets : PerDomain BudgetSetting
  rise : Nat
  fall : Nat
  derate : DerateSetting
  scan : ScanSetting
  loss : LossSetting
  /-- The address straps, read at the end of power-on reset (R172). -/
  straps : BitVec 2
  /-- The level of the KILL pin as taken: true is high (R179, R189). -/
  kill : Bool
  deriving DecidableEq, Repr

/-! ### The state -/

/-- The JD2560 and the commands that wait for it. -/
structure State where
  /-- The time in µs (log entry 1). -/
  now : Nat
  zone : ZoneStore
  solver : Solver
  banks : MapBanks
  timing : FrameTiming
  drivers : DriverTable
  link : Link
  /-- Thermal records 0..47, default the power-on values (R143). -/
  thermal : Store ThermalRecord
  events : EventQueue
  picture : PicturePort
  sup : SupervisorPort
  /-- The waiting commands, first in, first out. -/
  pending : List Instr
  deriving DecidableEq, Repr

/-- No rule of the manual stops the device: a command that is not admitted is answered by a last result, a flag,
a zero answer or nothing, each a next state. So no fault is ever raised. -/
inductive Fault
  deriving DecidableEq, Repr

/-- Why a step has no meaning. -/
inductive Refusal where
  /-- The command has no meaning yet; raised by an arm of `exec` alone, and safe: the machine stops. -/
  | notModelled (mnemonic : String)
  deriving DecidableEq, Repr

/-! ### Power-on reset -/

/-- The same value in every domain. -/
def PerDomain.all {α : Type} (v : α) : PerDomain α := ⟨v, v, v, v⟩

/-- Every port flag clear (R169). -/
def PortFlags.none : PortFlags := ⟨false, false, false, false, false, false, false⟩

/-- Reset contents of a zone record (R71). -/
def ZoneRecord.reset : ZoneRecord := ⟨0, 0, 0, 0, false, false, false, false⟩

/-- Reset contents of a domain record (R71, R60). -/
def DomainRecord.reset : DomainRecord := ⟨Config.unity, Config.unity, 0, Config.maxBudget⟩

/-- The tag 0:0. -/
def Tag.zero : Tag := ⟨false, 0⟩

/-- Reset contents of the ACTIVE bank with the given tag (R71). -/
def Bank.reset (t : Tag) : Bank := ⟨⟨[]⟩, .all .reset, t⟩

/-- Power-on values of a thermal record (R143). -/
def ThermalRecord.reset : ThermalRecord := ⟨25, 0, Config.fullScale, .normal, .none⟩

/-- The Zone Store after power-on reset (section 1.8). -/
def ZoneStore.reset : ZoneStore :=
  { cols := 0, rows := 0, demand := ⟨[]⟩, storeOpen := true, gainA := ⟨[]⟩, gainB := ⟨[]⟩, liveSet := .a,
    enable := ⟨[]⟩, fault := ⟨[]⟩, locks := ⟨[]⟩ }

/-- The Frame Solver after power-on reset: IDLE, voided clear, sums 0 (R20); the rest by log entry 6. -/
def Solver.reset : Solver :=
  { phase := .idle, kind := .picture, voided := false, cursor := 0, startTime := 0,
    params := ⟨.a, 0, 0, Config.freeRunPeriod, false, [], 0⟩, snapshot := [],
    sums := .all ⟨0, 0, 0, 0⟩, inputs := .all ⟨Config.maxBudget, Config.unity, Config.unity, Config.unity⟩,
    factors := .all ⟨Config.unity, Config.unity⟩ }

/-- The Map Banks after power-on reset (R71): the records of PENDING are not cleared, and its tag and source are those
of log entry 6. -/
def MapBanks.powerOn (held : Bank) : MapBanks :=
  ⟨.reset .zero, { held with tag := .zero }, .empty, .ordinary⟩

/-- The Frame Timing Unit after power-on reset (head of chapters 4 and 5), with these levels on
HOLD and FSYNC. -/
def FrameTiming.reset (hold fsync : Bool) : FrameTiming :=
  { edgeRef := none, tf := Config.freeRunPeriod, lossTimer := none, freeRun := .off, schedule := none,
    gateOpen := true, hold := hold, fsync := fsync }

/-- The Driver Table after power-on reset (R101). -/
def DriverTable.reset : DriverTable := ⟨⟨[]⟩, none, none, none, []⟩

/-- The Drive Link Controller after power-on reset (R141). -/
def Link.reset : Link :=
  { line := .idle, idlePeriods := 0, resetGap := true, resend := none, queue := [], rate := .mhz20,
    lineRate := .mhz20, mode := .quiet, lineMode := .quiet, modeMoved := false, pollInterval := 4, pollTimer := none,
    attentionHold := false }

/-- The Supervisor Port after power-on reset (R184, section 10.3), with these straps and this level on KILL. -/
def SupervisorPort.reset (straps : BitVec 2) (kill : Bool) : SupervisorPort :=
  { op := .standby, latch := .clear, resume := .standby, lastResult := .ok, readPointer := none,
    flags := .none, budgets := .all ⟨Config.maxBudget, Config.unity⟩, rise := Config.fullScale,
    fall := Config.fullScale, derate := ⟨70, 100, 1024, 95⟩, scan := ⟨1, 0, 0⟩, loss := ⟨4, 0⟩,
    straps := straps, kill := kill }

/-- The device as power-on reset leaves it, with the inputs as given and the PENDING records as they were (R184,
R71). -/
def State.powerOn (straps : BitVec 2) (fsync hold kill : Bool) (held : Bank) (now : Nat) (queue : List Instr) :
    State :=
  { now := now, zone := .reset, solver := .reset, banks := .powerOn held, timing := .reset hold fsync,
    drivers := .reset,
    link := .reset, thermal := ⟨[]⟩, events := ⟨[], false⟩, picture := ⟨.none, .nothing⟩,
    sup := .reset straps kill, pending := queue }

/-- The machine right after power-on reset (R184): straps 00, FSYNC high, HOLD low and KILL high (log entry 5), PENDING
at the reset contents (log entry 6), no command waiting. -/
def State.reset : State := .powerOn 0 true false true (.reset .zero) 0 []

end Sys2Proof.Machine
end

