-- ==== Sys2Proof/Machine/Store.lean ====
section
/-! DEFINITION. Reading and writing the tables of the state: the one place where the canonical form of a `Store`
is kept, and the four-domain tuples. -/

namespace Sys2Proof.Machine

variable {α β : Type}

/-- The value listed at an index, or the default. -/
def findCell (d : α) : List (Nat × α) → Nat → α
  | [], _ => d
  | (k, v) :: t, i => if i = k then v else findCell d t i

/-- Puts a value at an index, keeping the indices rising. -/
def insertCell (i : Nat) (v : α) : List (Nat × α) → List (Nat × α)
  | [] => [(i, v)]
  | (k, w) :: t =>
    if i < k then (i, v) :: (k, w) :: t
    else if i = k then (i, v) :: t
    else (k, w) :: insertCell i v t

/-- Unlists an index. -/
def removeCell (i : Nat) : List (Nat × α) → List (Nat × α)
  | [] => []
  | (k, w) :: t => if i = k then removeCell i t else (k, w) :: removeCell i t

/-- What the table with default `d` holds at an index. -/
def Store.get (d : α) (m : Store α) (i : Nat) : α := findCell d m.cells i

/-- The table with a new value at an index. -/
def Store.set [DecidableEq α] (d : α) (m : Store α) (i : Nat) (v : α) : Store α :=
  ⟨if v = d then removeCell i m.cells else insertCell i v m.cells⟩

/-- The table with the entries below `n` rewritten from their index and old value. -/
def Store.update [DecidableEq α] (d : α) (f : Nat → α → α) (m : Store α) : Nat → Store α
  | 0 => m
  | n + 1 => (Store.update d f m n).set d n (f n ((Store.update d f m n).get d n))

/-- The table with every entry from `first` to `last` at one value. -/
def Store.fill [DecidableEq α] (d : α) (m : Store α) (first last : Nat) (v : α) : Store α :=
  m.update d (fun i w => if first ≤ i ∧ i ≤ last then v else w) (last + 1)

/-- The canonical form: indices strictly rising, no value equal to the default. -/
def Store.wf [DecidableEq α] (d : α) (m : Store α) : Prop :=
  m.cells.Pairwise (fun a b => a.1 < b.1) ∧ ∀ c ∈ m.cells, c.2 ≠ d

/-- The value of one domain. -/
def PerDomain.get (p : PerDomain α) (d : Domain) : α :=
  match d with
  | 0 => p.d0
  | 1 => p.d1
  | 2 => p.d2
  | 3 => p.d3

/-- The values with one domain's replaced. -/
def PerDomain.set (p : PerDomain α) (d : Domain) (v : α) : PerDomain α :=
  match d with
  | 0 => { p with d0 := v }
  | 1 => { p with d1 := v }
  | 2 => { p with d2 := v }
  | 3 => { p with d3 := v }

/-- One value computed for each domain. -/
def PerDomain.of (f : Domain → α) : PerDomain α := ⟨f 0, f 1, f 2, f 3⟩

end Sys2Proof.Machine
end

