-- ==== Sys2Proof/Machine/Flags.lean ====
section
/-! DEFINITION. The port flags in their two copies (R169). -/

namespace Sys2Proof.Machine

/-- The seven port flags (R169). -/
inductive PortFlag | lateWrite | closeRefused | superseded | lateCommit | runtFs | flushed | gainLocked
  deriving DecidableEq, Repr

/-- A copy with one flag set; a flag already set stays set (R169). -/
def PortFlags.set (p : PortFlags) (f : PortFlag) : PortFlags :=
  match f with
  | .lateWrite => { p with lateWrite := true }
  | .closeRefused => { p with closeRefused := true }
  | .superseded => { p with superseded := true }
  | .lateCommit => { p with lateCommit := true }
  | .runtFs => { p with runtFs := true }
  | .flushed => { p with flushed := true }
  | .gainLocked => { p with gainLocked := true }

/-- A copy with one flag set when a condition holds. -/
def PortFlags.setIf (p : PortFlags) (c : Bool) (f : PortFlag) : PortFlags := if c then p.set f else p

/-- A cause sets its flag in both copies (R169). -/
def State.raiseIf (c : Bool) (f : PortFlag) (s : State) : State :=
  { s with
    picture := { s.picture with flags := s.picture.flags.setIf c f }
    sup := { s.sup with flags := s.sup.flags.setIf c f } }

/-- A cause sets its flag in both copies (R169). -/
def State.raise (f : PortFlag) (s : State) : State := s.raiseIf true f

end Sys2Proof.Machine
end

