-- ==== Sys2Proof/Machine/Operands.lean ====
section
/-! DEFINITION. Every operand form: the fields of the port records (R185 to R187), the write orders (R4), the
focus windows (R51), and what the JD2560 reads from the drive link (R123, R125, R128, R129). -/

namespace Sys2Proof.Machine

open Sys2Proof

/-! ### Fields -/

/-- A two-byte field, most significant byte first (R185). -/
def be16 (a b : Byte) : Nat := a.toNat * 256 + b.toNat

/-- A three-byte field, most significant byte first (R185). -/
def be24 (a b c : Byte) : Nat := (a.toNat * 256 + b.toNat) * 256 + c.toNat

/-- The gain set a set byte names by its bit 0 (R186). -/
def gainSetOf (set : Byte) : GainSet := if set.getLsbD 0 then .b else .a

/-- The start zone of a position field: its upper 12 bits (R186). -/
def positionStart (p : BitVec 16) : Nat := (p.extractLsb' 4 12).toNat

/-- The order of a position field; code 3 names none (R186). -/
def positionOrder (p : BitVec 16) : Option WriteOrder :=
  if p.extractLsb' 2 2 = 0 then some .raster
  else if p.extractLsb' 2 2 = 1 then some .serpentine
  else if p.extractLsb' 2 2 = 2 then some .quad
  else none

/-- The start zone of a picture READ MAP or READ GAIN: the low 12 bits (R186). -/
def readStart (f : BitVec 16) : Nat := (f.extractLsb' 0 12).toNat

/-- A gain from its two bytes: the low eleven bits (R10). -/
def gainOf (w : BitVec 16) : Gain := w.extractLsb' 0 11

/-- A temperature byte: temperature + 40, out of range above 190 (R185). -/
def temperatureOf (b : Byte) : Option Int := if b.toNat ≤ 190 then some ((b.toNat : Int) - 40) else none

/-- The gains of a supervisor WRITE GAIN, two bytes each; a single trailing byte is ignored (R13). -/
def gainsOf : List Byte → List Gain
  | a :: b :: rest => gainOf (a ++ b) :: gainsOf rest
  | _ => []

/-! ### Write orders (R4) -/

/-- The zone at a column and a row of a grid with `cols` columns (R1). -/
def zoneIndex (cols c r : Nat) : Nat := r * cols + c

/-- One row left to right. -/
def rowForward (cols r : Nat) : List Nat := (List.range cols).map (fun c => zoneIndex cols c r)

/-- The zones of a QUAD block of two columns by two rows that lie inside the grid (R4). -/
def quadBlock (cols rows bc br : Nat) : List Nat :=
  ([(2 * bc, 2 * br), (2 * bc + 1, 2 * br), (2 * bc, 2 * br + 1), (2 * bc + 1, 2 * br + 1)].filter
    (fun p => p.1 < cols && p.2 < rows)).map (fun p => zoneIndex cols p.1 p.2)

/-- The sequence of positions of a write order on a grid (R4). -/
def zoneSequence (o : WriteOrder) (cols rows : Nat) : List Nat :=
  match o with
  | .raster => (List.range rows).flatMap (rowForward cols)
  | .serpentine =>
    (List.range rows).flatMap
      (fun r => if r % 2 = 0 then rowForward cols r else (rowForward cols r).reverse)
  | .quad =>
    (List.range ((rows + 1) / 2)).flatMap
      (fun br => (List.range ((cols + 1) / 2)).flatMap (fun bc => quadBlock cols rows bc br))

/-- The zone at a position of a write order; positions wrap after N − 1 (R5). -/
def zoneAt (o : WriteOrder) (cols rows position : Nat) : Nat :=
  (zoneSequence o cols rows).getD (position % (cols * rows)) 0

/-- The position that holds a zone (R5). -/
def positionOf (o : WriteOrder) (cols rows zone : Nat) : Nat := (zoneSequence o cols rows).idxOf zone

/-! ### CLOSE FRAME (R23, R186) -/

/-- The complete windows among the bytes, as many as are announced. -/
def windowsOf : Nat → List Byte → List Window
  | n + 1, a :: b :: c :: d :: rest => ⟨a.toNat, b.toNat, c.toNat, d.toNat⟩ :: windowsOf n rest
  | _, _ => []

/-- The fields of a CLOSE FRAME record (R23). -/
structure CloseRecord where
  epoch : Bool
  sceneCut : Bool
  /-- Rise and fall override, when override present is set. -/
  overrides : Option (Nat × Nat)
  /-- The first four complete windows. -/
  windows : List Window
  deriving DecidableEq, Repr

/-- The bytes of a CLOSE FRAME; none when its control fields or announced overrides are not whole (R22). -/
def closeRecordOf : List Byte → Option CloseRecord
  | [] => none
  | c :: rest =>
    let count := (c.extractLsb' 2 3).toNat
    if c.getLsbD 5 then
      match rest with
      | x :: y :: z :: more =>
        some ⟨c.getLsbD 7, c.getLsbD 6, some ((x ++ y.extractLsb' 4 4).toNat, (y.extractLsb' 0 4 ++ z).toNat),
          (windowsOf count more).take 4⟩
      | _ => none
    else some ⟨c.getLsbD 7, c.getLsbD 6, none, (windowsOf count rest).take 4⟩

/-- A window judged against the grid: ignored, or clipped (R51). -/
def clipWindow (cols rows : Nat) (w : Window) : Option Window :=
  if w.firstCol > w.lastCol ∨ w.firstRow > w.lastRow then none
  else if w.firstCol ≥ cols ∨ w.firstRow ≥ rows then none
  else some ⟨w.firstCol, w.firstRow, min w.lastCol (cols - 1), min w.lastRow (rows - 1)⟩

/-- A zone lies in a window (R51). -/
def Window.contains (w : Window) (c r : Nat) : Bool :=
  w.firstCol ≤ c && c ≤ w.lastCol && w.firstRow ≤ r && r ≤ w.lastRow

/-! ### LOAD DRIVER (R102, R187) -/

/-- What LOAD DRIVER loads. -/
inductive DriverLoad where
  | absent
  | present (entry : DriverEntry)
  deriving DecidableEq, Repr

/-- A tile holds the zone at a column and a row (R101). -/
def Tile.contains (t : Tile) (c r : Nat) : Bool :=
  t.col ≤ c && c < t.col + t.width && t.row ≤ r && r < t.row + t.height

/-- Two tiles share a zone. -/
def Tile.overlaps (t u : Tile) : Bool :=
  t.col < u.col + u.width && u.col < t.col + t.width && t.row < u.row + u.height && u.row < t.row + t.height

/-- Each field of a present load in its range of R101; the domain is in range by its type. -/
def DriverEntry.inRange (e : DriverEntry) : Bool :=
  e.addr ≤ 62 && e.tile.col ≤ 63 && e.tile.row ≤ 39 && 1 ≤ e.tile.width && e.tile.width ≤ 16
    && 1 ≤ e.tile.height && e.tile.height ≤ 16 && e.tile.width * e.tile.height ≤ 64 && e.pwm ≤ 15
    && e.current ≤ 255

/-- The bytes after the index of a LOAD DRIVER; none when they are too few or a field is out of range. -/
def driverLoadOf : List Byte → Option DriverLoad
  | p :: rest =>
    if p = 0 then some .absent
    else if p = 1 then
      match rest with
      | a :: c :: r :: w :: h :: d :: pwm :: cur :: _ =>
        if hd : d.toNat < 4 then
          let e : DriverEntry := ⟨a.toNat, ⟨c.toNat, r.toNat, w.toNat, h.toNat⟩, ⟨d.toNat, hd⟩, pwm.toNat,
            cur.toNat, .unprobed, 0, 0, false⟩
          if e.inRange then some (.present e) else none
        else none
      | _ => none
    else none
  | [] => none

/-! ### Settings (R187) -/

/-- SET DERATE's parameters; none when too few or a temperature is out of range (R147). -/
def derateOf : List Byte → Option DerateSetting
  | a :: b :: c :: d :: e :: _ =>
    match temperatureOf a, temperatureOf b, temperatureOf e with
    | some ts, some te, some ta =>
      if be16 c d ≤ Config.fullScale ∧ ts < te then some ⟨ts, te, be16 c d, ta⟩ else none
    | _, _, _ => none
  | _ => none

/-- SET SCAN's parameters; none when too few or out of range (R87). -/
def scanOf : List Byte → Option ScanSetting
  | n :: a :: b :: c :: d :: _ =>
    if 1 ≤ n.toNat ∧ n.toNat ≤ 16 ∧ be16 a b ≤ 8000 ∧ be16 c d ≤ 2000 then some ⟨n.toNat, be16 a b, be16 c d⟩
    else none
  | _ => none

/-- SET SLEW's rise and fall steps; none when too few or out of range (R177). -/
def slewOf : List Byte → Option (Nat × Nat)
  | a :: b :: c :: d :: _ =>
    if be16 a b ≤ Config.fullScale ∧ be16 c d ≤ Config.fullScale then some (be16 a b, be16 c d) else none
  | _ => none

/-- SET LOSS's parameters, clamped; none when too few (R80). -/
def lossOf : List Byte → Option LossSetting
  | n :: a :: b :: _ => some ⟨max 1 (min 16 n.toNat), min Config.fullScale (be16 a b)⟩
  | _ => none

/-- SET BUDGET's domain and clamped values; none when too few or for no domain (R49). -/
def budgetOf : List Byte → Option (Domain × BudgetSetting)
  | d :: a :: b :: c :: q :: r :: _ =>
    if hd : d.toNat < 4 then
      some (⟨d.toNat, hd⟩, ⟨min Config.maxBudget (be24 a b c), max 1 (min 4096 (be16 q r))⟩)
    else none
  | _ => none

/-- The settings SET LINK carries. -/
structure LinkSetting where
  rate : LinkRate
  mode : LinkMode
  interval : Nat
  deriving DecidableEq, Repr

/-- SET LINK's parameters; none when too few or out of range (R134, R187). -/
def linkOf : List Byte → Option LinkSetting
  | r :: m :: i :: _ =>
    if r.toNat ≤ 1 ∧ m.toNat ≤ 1 ∧ 1 ≤ i.toNat ∧ i.toNat ≤ 15 then
      some ⟨if r = 0 then .mhz20 else .mhz10, if m = 0 then .quiet else .polled, i.toNat⟩
    else none
  | _ => none

/-- A run of zones from two zone fields: first ≤ last < N (R16, R17, R18). -/
def zoneRangeOf (n : Nat) : List Byte → Option ZoneRange
  | a :: b :: c :: d :: _ => if be16 a b ≤ be16 c d ∧ be16 c d < n then some ⟨be16 a b, be16 c d⟩ else none
  | _ => none

/-- An entry index 0..47 (R116, R150, R176). -/
def entryIndexOf : List Byte → Option Nat
  | i :: _ => if i.toNat < Config.drivers then some i.toNat else none
  | [] => none

/-! ### What the drive link brings -/

/-- The ending of an addressed message (R125). -/
inductive Ending | accept | busy | checksumError | noResponse
  deriving DecidableEq, Repr

/-- The ending read from turnaround and status (R125). -/
def endingOf (l : LinkStatus) : Ending :=
  if !l.turnaroundHigh then .noResponse
  else if l.status = 0 then .accept
  else if l.status = 1 then .busy
  else if l.status = 2 then .checksumError
  else .noResponse

/-- A field of `width` periods from period `at`, first period most significant; a period that nobody drives
reads 1 (R128). -/
def periodsField (bits : List Bool) (start width : Nat) : Nat :=
  (List.range width).foldl (fun acc k => 2 * acc + (bits.getD (start + k) true).toNat) 0

/-- The sum of the 8-period groups of a run of periods, the last padded with 0 in its low positions (R123). -/
def groupSum (bits : List Bool) : Nat :=
  (List.range ((bits.length + 7) / 8)).foldl
    (fun acc g => acc + (List.range 8).foldl (fun v k => 2 * v + (bits.getD (8 * g + k) false).toNat) 0) 0

/-- The checksum of a run of periods (R123). -/
def checksumOf (bits : List Bool) : Nat := (256 - groupSum bits % 256) % 256

/-- A fault entry of a READ response: local zone and kind (R128). -/
structure FaultEntry where
  zone : Nat
  short : Bool
  deriving DecidableEq, Repr

/-- What a valid READ ending carries (R129). -/
structure ReadReport where
  temp : Int
  cause : Cause
  faults : List FaultEntry
  deriving DecidableEq, Repr

/-- The fault entries the JD2560 clocks: one for each unit of the count, up to 64 (R128). -/
def clockedFaults (bits : List Bool) : Nat := min 64 (periodsField bits 12 7)

/-- The periods the response checksum covers, as sampled (R128). -/
def responseBody (bits : List Bool) : List Bool :=
  (List.range (19 + 7 * clockedFaults bits)).map (fun i => bits.getD i true)

/-- The attention cause named by its code (R188). -/
def causeOf (code : Nat) : Option Cause :=
  if code = 0 then some .none else if code = 1 then some .thermal else if code = 2 then some .fault else none

/-- The report of a READ ending, or none for an invalid read (R129). -/
def readReportOf (l : LinkStatus) (bits : List Bool) : Option ReadReport :=
  match causeOf (periodsField bits 10 2) with
  | none => none
  | some cause =>
    if endingOf l = .accept ∧ periodsField bits 0 2 = 0
        ∧ (groupSum (responseBody bits) + periodsField bits (19 + 7 * clockedFaults bits) 8) % 256 = 0
        ∧ periodsField bits 2 8 ≤ 190 ∧ periodsField bits 12 7 ≤ 64 then
      some ⟨(periodsField bits 2 8 : Int) - 40, cause,
        (List.range (clockedFaults bits)).map
          (fun k => ⟨periodsField bits (19 + 7 * k) 6, periodsField bits (25 + 7 * k) 1 = 1⟩)⟩
    else none

/-- The priority codes of an arbitration that name thermal or fault (R138, R139). -/
def arbitrationAddress (sampled : BitVec 8) : Option Nat :=
  let priority := (~~~sampled).extractLsb' 6 2
  let addr := ((~~~sampled).extractLsb' 0 6).toNat
  if (priority = 2 ∨ priority = 1) ∧ addr ≠ 63 then some addr else none

end Sys2Proof.Machine
end

