-- ==== Sys2Proof/Machine/SolveMath.lean ====
section
/-! DEFINITION. The arithmetic of the solve stages, the factor step and the derate cap: exact integer arithmetic,
division rounded down (00_scope section 5.1). -/

namespace Sys2Proof.Machine

open Sys2Proof

/-- The calibrated level C of a demand and a gain (R32). -/
def calibrate (demand gain : Nat) : Nat := min Config.fullScale ((demand * gain + 512) / 1024)

/-- The rise or fall limit of a step at a frame time (R33). -/
def slewLimit (step tf : Nat) : Nat := min Config.fullScale (step * tf / Config.slewFrame)

/-- The slewed level S (R34). -/
def slewTo (c prev ru rd : Nat) : Nat :=
  if prev < c then min c (prev + ru) else if c < prev then max c (prev - rd) else c

/-- The slewed level of a zone under the sampled parameters: the stage is skipped at a scene cut (R34). -/
def slewStage (p : SolveParams) (c prev : Nat) : Nat :=
  if p.sceneCut then c else slewTo c prev (slewLimit p.rise p.tf) (slewLimit p.fall p.tf)

/-- The frame time a solve uses (R25). -/
def clampTf (tf : Nat) : Nat := max Config.tfMin (min Config.tfMax tf)

/-- The level A of a capped level under a factor (R38). -/
def scaleLevel (h k : Nat) : Nat := h * k / 4096

/-- The driver code and the new residual of a level (R39). -/
def dither (a r : Nat) : Nat × Nat :=
  if (a + r) / 4 > 1023 then (1023, 0) else ((a + r) / 4, a + r - 4 * ((a + r) / 4))

/-- The target factors from the effective budget, the focus sum and the non-focus sum (R54, R55). -/
def targetFactors (beff fd nd : Nat) : Factors :=
  if nd + fd ≤ beff then ⟨4096, 4096⟩
  else if fd < beff then ⟨(beff - fd) * 4096 / nd, 4096⟩
  else ⟨0, if fd = 0 then 4096 else beff * 4096 / fd⟩

/-- The factors of one domain: the targets of R54 limited in their rise (R53, R56). -/
def domainFactors (i : FactorInput) (s : DomainSums) : Factors :=
  let t := targetFactors (i.budget - s.carried) s.focus s.nonFocus
  ⟨min t.kn (i.prevN + i.recovery), min t.kf (i.prevF + i.recovery)⟩

/-- The derate cap at a temperature (R148). -/
def derateCap (d : DerateSetting) (temp : Int) (blind : Bool) : Nat :=
  if blind then d.capmin
  else if temp ≤ d.ts then Config.fullScale
  else if d.te ≤ temp then d.capmin
  else Config.fullScale - (temp - d.ts).toNat * (Config.fullScale - d.capmin) / (d.te - d.ts).toNat

/-- The scan band of a row (R88). -/
def bandOfRow (r bands rows : Nat) : Nat := r * bands / rows

end Sys2Proof.Machine
end

