-- ==== Sys2Proof/Machine/Ops.lean ====
section
/-! DEFINITION. The shared operations: one block's part of an event is a function of that block, and an operation
of the whole device puts them together. -/

namespace Sys2Proof.Machine

open Sys2Proof

/-! ### Time -/

/-- The device at a time that is not before the present one (log entry 2). -/
def State.reach (t : Nat) (s : State) : State := { s with now := max s.now t }

/-! ### Zone Store -/

/-- The zone count N (R1). -/
def ZoneStore.n (z : ZoneStore) : Nat := z.cols * z.rows

/-- The demand of a zone (R6). -/
def ZoneStore.demandAt (z : ZoneStore) (i : Nat) : Demand := z.demand.get 0 i

/-- The gain of a zone in a set (R10). -/
def ZoneStore.gainAt (z : ZoneStore) (g : GainSet) (i : Nat) : Gain :=
  match g with
  | .a => z.gainA.get 1024 i
  | .b => z.gainB.get 1024 i

/-- A zone's gain written in one set (R10). -/
def ZoneStore.putGain (z : ZoneStore) (g : GainSet) (i : Nat) (v : Gain) : ZoneStore :=
  match g with
  | .a => { z with gainA := z.gainA.set 1024 i v }
  | .b => { z with gainB := z.gainB.set 1024 i v }

/-- A zone's enable (R17). -/
def ZoneStore.enabled (z : ZoneStore) (i : Nat) : Bool := z.enable.get true i

/-- A zone's fault mark (R18). -/
def ZoneStore.faulty (z : ZoneStore) (i : Nat) : Bool := z.fault.get false i

/-- What a lock slot holds (R15). -/
def ZoneStore.lockAt (z : ZoneStore) (slot : Nat) : Option ZoneRange := z.locks.get none slot

/-- A zone is locked while it lies within the range of at least one slot (R15). -/
def ZoneStore.locked (z : ZoneStore) (i : Nat) : Bool :=
  (List.range Config.lockSlots).any fun k =>
    match z.lockAt k with
    | some r => r.first ≤ i && i ≤ r.last
    | none => false

/-- Some lock slot holds a range (R2). -/
def ZoneStore.anyLock (z : ZoneStore) : Bool :=
  (List.range Config.lockSlots).any fun k => (z.lockAt k).isSome

/-- The zones that `count` values visit from a start zone (R5). -/
def ZoneStore.visited (z : ZoneStore) (o : WriteOrder) (startZone count : Nat) : List Nat :=
  (List.range count).map fun k => zoneAt o z.cols z.rows (positionOf o z.cols z.rows startZone + k)

/-- Gains written one after the other at these zones (R5, R13). -/
def ZoneStore.putGains (z : ZoneStore) (g : GainSet) : List (Nat × Gain) → ZoneStore
  | [] => z
  | (i, v) :: rest => (z.putGain g i v).putGains g rest

/-! ### Event queue -/

/-- A record matches a post on kind, driver and zone, absent matching absent only (R154). -/
def EventRecord.isFor (r : EventRecord) (k : EventKind) (driver zone : Option Nat) : Bool :=
  decide (r.kind = k) && decide (r.driver = driver) && decide (r.zone = zone)

/-- A post taken by the queue while ACTIVE carries the tag `t` (R154, R155). -/
def EventQueue.post (q : EventQueue) (t : Tag) (k : EventKind) (driver zone : Option Nat)
    (value : Option Int) : EventQueue :=
  if q.records.any (fun r => r.isFor k driver zone) then
    { q with records := q.records.map fun r =>
        if r.isFor k driver zone then { r with count := min 255 (r.count + 1), value := value } else r }
  else if q.records.length < Config.eventCapacity then
    { q with records := q.records ++ [⟨k, driver, zone, value, 1, t⟩] }
  else { q with overflow := true }

/-- What a post carries (R154). -/
structure Post where
  kind : EventKind
  driver : Option Nat
  zone : Option Nat
  value : Option Int
  deriving DecidableEq, Repr

/-- Posts taken one after the other (R154). -/
def EventQueue.postAll (t : Tag) : EventQueue → List Post → EventQueue
  | q, [] => q
  | q, p :: rest => EventQueue.postAll t (q.post t p.kind p.driver p.zone p.value) rest

/-- A post with the ACTIVE tag as it stands (R154). -/
def State.post (k : EventKind) (driver zone : Option Nat) (value : Option Int) (s : State) : State :=
  { s with events := s.events.post s.banks.active.tag k driver zone value }

/-! ### Map Banks -/

/-- A zone record of a bank. -/
def Bank.zone (b : Bank) (i : Nat) : ZoneRecord := b.zones.get .reset i

/-- A zone record of a bank rewritten. -/
def Bank.putZone (b : Bank) (i : Nat) (r : ZoneRecord) : Bank := { b with zones := b.zones.set .reset i r }

/-- ACTIVE returned to its reset contents with its tag kept (R71). -/
def MapBanks.clearActive (b : MapBanks) : MapBanks := { b with active := .reset b.active.tag }

/-- The pending map discarded (R75). -/
def MapBanks.discard (b : MapBanks) : MapBanks := { b with pend := .empty }

/-- A waiting map: SOLVED or SHIPPED (R73). -/
def MapBanks.waiting (b : MapBanks) : Bool := b.pend = .solved || b.pend = .shipped

/-- The map entry a host reads for a zone (R167). -/
def ZoneRecord.entry (r : ZoneRecord) : MapEntry := ⟨r.level, r.held, r.fault, r.focus, r.inactive⟩

/-- `count` entries of a bank in zone-index order from a start zone, wrapping after zone N − 1 (R166). -/
def Bank.entriesFrom (b : Bank) (n startZone count : Nat) : List MapEntry :=
  (List.range count).map fun k => (b.zone ((startZone + k) % n)).entry

/-- The count of the tag after this one, modulo 128 (R26). -/
def Tag.next (t : Tag) (epoch : Bool) : Tag := ⟨epoch, t.count + 1⟩

/-! ### Driver Table -/

/-- An entry, none when absent (R101). -/
def DriverTable.entryAt (d : DriverTable) (i : Nat) : Option DriverEntry := d.entries.get none i

/-- One entry rewritten. -/
def DriverTable.put (d : DriverTable) (i : Nat) (e : Option DriverEntry) : DriverTable :=
  { d with entries := d.entries.set none i e }

/-- Every present entry rewritten. -/
def DriverTable.mapEntries (d : DriverTable) (f : DriverEntry → DriverEntry) : DriverTable :=
  { d with entries := ⟨d.entries.cells.map fun c => (c.1, c.2.map f)⟩ }

/-- The present entries with their indices, in index order. -/
def DriverTable.present (d : DriverTable) : List (Nat × DriverEntry) :=
  (List.range Config.drivers).filterMap fun i => (d.entryAt i).map fun e => (i, e)

/-- REACHABLE or FAILING (R74, R107). -/
def DriverEntry.shippable (e : DriverEntry) : Bool := e.state = .reachable || e.state = .failing

/-- The indices of the entries in REACHABLE or FAILING, in index order (R109). -/
def DriverTable.shippable (d : DriverTable) : List Nat :=
  (d.present.filter fun p => p.2.shippable).map Prod.fst

/-- The reachable count (R107, R119). -/
def DriverTable.reachableCount (d : DriverTable) : Nat := d.shippable.length

/-- The present entry whose tile contains a zone (R101). -/
def DriverTable.owner (d : DriverTable) (c r : Nat) : Option (Nat × DriverEntry) :=
  d.present.find? fun p => p.2.tile.contains c r

/-- The present entry with a link address (R114). -/
def DriverTable.byAddr (d : DriverTable) (addr : Nat) : Option (Nat × DriverEntry) :=
  d.present.find? fun p => p.2.addr = addr

/-- An entry in UNPROBED with its counts at 0 (R101, R105). -/
def DriverEntry.unprobed (e : DriverEntry) : DriverEntry :=
  { e with state := .unprobed, misses := 0, attempts := 0, failed := false }

/-- An entry with its mark and attempt count cleared (R112, R113). -/
def DriverEntry.roundCleared (e : DriverEntry) : DriverEntry := { e with attempts := 0, failed := false }

/-- The shipping round ended: marks and attempt counts cleared (R112, R113). -/
def DriverTable.endRound (d : DriverTable) : DriverTable :=
  { (d.mapEntries DriverEntry.roundCleared) with round := none }

/-- The shipping round, discovery and every outstanding probe ended (R108, R113, R117). -/
def DriverTable.endWork (d : DriverTable) : DriverTable :=
  { d.endRound with discovery := none, probes := [] }

/-- A shipping round begun: the list built, listed attempt counts 0 and every mark clear (R109). -/
def DriverTable.openRound (d : DriverTable) : DriverTable :=
  { (d.mapEntries fun e => { e with attempts := if e.shippable then 0 else e.attempts, failed := false }) with
    round := some d.shippable }

/-- The entry the next rotation READ visits (R115). -/
def DriverTable.nextRotation (d : DriverTable) : Option Nat :=
  let first := match d.rotation with
    | some i => i + 1
    | none => 0
  ((List.range Config.drivers).map fun k => (first + k) % Config.drivers).find? fun i =>
    match d.entryAt i with
    | some e => e.shippable
    | none => false

/-- The zones of a tile in tile raster order (R110). -/
def Tile.zones (t : Tile) (cols : Nat) : List Nat :=
  (List.range t.height).flatMap fun y =>
    (List.range t.width).map fun x => zoneIndex cols (t.col + x) (t.row + y)

/-! ### Drive link -/

/-- The transmit class of a message (R122, R130). -/
def Message.cls : Message → Nat
  | .blank => 1
  | .latch _ _ => 2
  | .read _ _ .attention => 3
  | .level _ _ _ _ => 4
  | .config _ _ _ _ _ _ _ => 5
  | .read _ _ .discovery => 5
  | .read _ _ .probe => 5
  | .read _ _ .rotation => 6
  | .poll => 7

/-- A message put behind every waiting message of its class or a lower one (R130). -/
def enqueue (m : Message) : List Message → List Message
  | [] => [m]
  | x :: t => if m.cls < x.cls then m :: x :: t else x :: enqueue m t

/-- A message added to the transmit queue. -/
def Link.send (l : Link) (m : Message) : Link := { l with queue := enqueue m l.queue }

/-- A POLL asked for: none is queued while one is (R135). -/
def Link.sendPoll (l : Link) : Link := if l.queue.contains .poll then l else l.send .poll

/-- The message on the line without its owner's claim, when it is one of these (R126). -/
def Link.withdraw (l : Link) (which : Message → Bool) : Link :=
  { l with
    line := match l.line with
      | .message m => .message { m with claim := m.claim && !which m.msg }
      | x => x }

/-- A LEVEL message (R122). -/
def Message.isLevel : Message → Bool
  | .level _ _ _ _ => true
  | _ => false

/-- A rotation READ. -/
def Message.isRotation : Message → Bool
  | .read _ _ .rotation => true
  | _ => false

/-- An attention READ. -/
def Message.isAttention : Message → Bool
  | .read _ _ .attention => true
  | _ => false

/-- The round's LEVEL removed from the queue, and its claim withdrawn on the line (R113, R126). -/
def Link.dropLevel (l : Link) : Link :=
  { (l.withdraw Message.isLevel) with queue := l.queue.filter fun m => !m.isLevel }

/-- The link's part of a KILL or of a STOP in DISCOVERY or RUN (R132, R126, R127, R135): all but BLANK removed,
a BLANK queued, claims withdrawn, a LATCH resend dropped, the poll timer stopped. -/
def Link.quench (l : Link) : Link :=
  { (l.withdraw fun m => m ≠ .blank) with
    queue := [.blank]
    resend := match l.resend with
      | some m => if m.msg = .blank then some m else none
      | none => none
    pollTimer := none }

/-- The link's part of a SOFT RESET (R142): as R132, and no broadcast resend begins after it. -/
def Link.softReset (l : Link) : Link :=
  { (l.withdraw fun _ => true) with queue := [.blank], resend := none, pollTimer := none, attentionHold := false }

/-- The mode that a stop pulse stands for: 2 periods quiet, 3 polled (R133). -/
def LinkMode.ofStop (wide : Bool) : LinkMode := if wide then .polled else .quiet

/-- The mode the drivers are told by a stop pulse: the mode setting as the pulse began, which is the one that stands
unless it has changed since the message or arbitration began; then the width tells which (R133, log entry 11). -/
def Link.told (l : Link) (wide : Bool) : LinkMode := if l.modeMoved then .ofStop wide else l.mode

/-- The last period of a stop pulse: the line is idle, the line mode is the mode that the pulse stood for and the rate
setting takes effect (R120, R121, R133). -/
def Link.finish (l : Link) (wide : Bool) : Link :=
  { l with line := .idle, idlePeriods := 0, lineMode := l.told wide, modeMoved := false, lineRate := l.rate }

/-- A READ in flight that no longer concerns an entry that is loaded or made absent (R144). -/
def Link.entryGone (l : Link) (which : Nat → Bool) : Link :=
  { l with
    line := match l.line with
      | .message m =>
        match m.msg with
        | .read i _ _ => .message { m with entryKept := m.entryKept && !which i }
        | _ => .message m
      | x => x }

/-- A message begins on the line, and the attention hold is cleared (R131, R139). -/
def Link.begin (l : Link) (m : InFlight) : Link :=
  { l with line := .message m, attentionHold := false }

/-- The idle periods of one microsecond at the rate in force (R120). -/
def LinkRate.perMicrosecond : LinkRate → Nat
  | .mhz20 => 20
  | .mhz10 => 10

/-- The next idle period in which a message may begin: odd, the third at the earliest (R121). -/
def nextChoice (idle : Nat) : Nat := if idle < 3 then 3 else if idle % 2 = 0 then idle + 1 else idle + 2

/-- The next attention window: an even-numbered idle period from the second on (R121, R137). -/
def nextWindow (idle : Nat) : Nat := if idle < 2 then 2 else if idle % 2 = 0 then idle + 2 else idle + 1

/-- An attention READ for an entry is queued or on the line (R130, R140). -/
def Link.hasAttention (l : Link) (i : Nat) : Bool :=
  l.queue.any (fun m => match m with
    | .read j _ .attention => i = j
    | _ => false)
  || match l.line with
    | .message m =>
      match m.msg with
      | .read j _ .attention => i = j
      | _ => false
    | _ => false

/-- An attention request for an address (R140). -/
def Link.attentionRequest (op : OpState) (d : DriverTable) (l : Link) (addr : Nat) : Link :=
  match d.byAddr addr with
  | some (i, e) =>
    if (op = .discovery ∨ op = .run) ∧ e.shippable = true ∧ l.hasAttention i = false then
      l.send (.read i addr .attention)
    else l
  | none => l

/-- The attention requests of several addresses, in the order given (R136). -/
def Link.attentionRequests (op : OpState) (d : DriverTable) : Link → List Nat → Link
  | l, [] => l
  | l, a :: rest => Link.attentionRequests op d (l.attentionRequest op d a) rest

/-- A CONFIG for an entry (R105, R116). -/
def configFor (i : Nat) (e : DriverEntry) (forProbe : Bool) : Message :=
  .config i e.addr e.pwm e.current e.tile.width e.tile.height forProbe

/-! ### Scan schedule -/

/-- The LATCH messages of the bands from the cursor up to `upto` (R90, R95). -/
def Schedule.latches (c : Schedule) (upto : Nat) : List Message :=
  (List.range' c.cursor (upto - c.cursor)).map fun b => .latch c.tag b

/-- Messages added to the transmit queue one after the other. -/
def Link.sendAll (l : Link) : List Message → Link
  | [] => l
  | m :: rest => (l.send m).sendAll rest

/-- The schedule of a commit (R89), with the bands already due in the commit event counted by its cursor. -/
def Schedule.fromCommit (tag : Tag) (g : ScanSetting) (time : Nat) : Schedule :=
  ⟨tag, g.bands, g.base, g.step, time,
    if g.base = 0 then (if g.step = 0 then g.bands else min 1 g.bands) else 0, 0⟩

/-- The time at which a band's LATCH comes due (R89). -/
def Schedule.dueTime (c : Schedule) (band : Nat) : Nat := c.commitTime + c.base + band * c.step

/-! ### Shipping -/

/-- The LEVEL of an entry for the pending map (R110). -/
def State.levelFor (s : State) (i : Nat) (e : DriverEntry) : Message :=
  .level i e.addr s.banks.pendingBank.tag
    ((e.tile.zones s.zone.cols).map fun z => (s.banks.pendingBank.zone z).code)

/-- A SOLVED map becomes SHIPPED with the gate open, and the rotation READ is chosen (R74, R115). -/
def State.mapShipped (s : State) : State :=
  if s.banks.pend = .solved ∧ s.timing.gateOpen = true then
    let s := { s with banks := { s.banks with pend := .shipped } }
    if s.link.queue.any Message.isRotation then s
    else
      match s.drivers.nextRotation with
      | some i =>
        match s.drivers.entryAt i with
        | some e =>
          { s with
            drivers := { s.drivers with rotation := some i }
            link := s.link.send (.read i e.addr .rotation) }
        | none => s
      | none => s
  else s

/-- The round goes on: its next LEVEL is offered, or with its list empty the map becomes SHIPPED (R109, R110). -/
def State.continueRound (s : State) : State :=
  match s.drivers.round with
  | some (i :: _) =>
    match s.drivers.entryAt i with
    | some e => { s with link := s.link.send (s.levelFor i e) }
    | none => s
  | some [] => s.mapShipped
  | none => s

/-- A shipping round begins when the map is SOLVED and the gate OPEN (R109). -/
def State.beginRound (s : State) : State :=
  if s.banks.pend = .solved ∧ s.timing.gateOpen = true then
    State.continueRound { s with drivers := s.drivers.openRound }
  else s

/-! ### Solve start -/

/-- The driver snapshot (R28). -/
def DriverTable.snapshot (d : DriverTable) : List SnapEntry :=
  d.present.map fun p => ⟨p.1, p.2.tile, p.2.domain, p.2.state = .unreachable⟩

/-- A solve start (R24, R25, R26, R72). -/
def State.startSolve (kind : SolveKind) (params : SolveParams) (epoch : Bool) (s : State) : State :=
  { s with
    solver :=
      { s.solver with
        phase := .pass1, kind := kind, voided := false, cursor := 0, startTime := s.now, params := params,
        snapshot := s.drivers.snapshot, sums := .all ⟨0, 0, 0, 0⟩ }
    banks :=
      { s.banks with
        pendingBank := { s.banks.pendingBank with tag := s.banks.active.tag.next epoch }
        pend := .solving
        source := if kind = .picture ∧ s.timing.freeRun ≠ .off then .pictureInLoss else .ordinary }
    zone := { s.zone with storeOpen := s.zone.storeOpen && decide (kind = .loss) } }

/-- The waiting map superseded: SUPERSEDED set, its shipping round ended (R43, R45, R113). -/
def State.supersede (s : State) : State :=
  { s.raise .superseded with drivers := s.drivers.endRound, link := s.link.dropLevel }

/-- The parameters of a loss solve (R25, R27). -/
def State.lossParams (s : State) : SolveParams :=
  ⟨s.zone.liveSet, s.sup.rise, s.sup.fall, Config.freeRunPeriod, false, [], s.sup.loss.level⟩

/-- The loss solve of an internal frame start, where one is begun (R83, R45). -/
def State.lossSolve (s : State) : State :=
  if s.solver.phase = .idle ∧ ¬(s.banks.pend = .solved ∧ s.banks.source = .pictureInLoss) then
    (if s.banks.waiting then s.supersede else s).startSolve .loss s.lossParams s.banks.active.tag.epoch
  else s

/-! ### Frame starts -/

/-- The flush: bands of a running schedule not yet due come due at once, and FLUSHED is set (R95). -/
def State.flush (s : State) : State :=
  match s.timing.schedule with
  | some c =>
    if c.cursor < c.bands then
      { s.raise .flushed with
        link := s.link.sendAll (c.latches c.bands)
        timing := { s.timing with schedule := some { c with cursor := c.bands } } }
    else s
  | none => s

/-- The zone lies in the tile of a driver marked failed this frame (R78). -/
def DriverTable.failedZone (d : DriverTable) (cols z : Nat) : Bool :=
  match d.owner (z % cols) (z / cols) with
  | some (_, e) => e.failed
  | none => false

/-- A zone of a failed driver as committed: the former ACTIVE values, held set and inactive clear, the fault and
focus flags of the pending record (R78). -/
def ZoneRecord.carryForward (old new : ZoneRecord) : ZoneRecord :=
  { new with level := old.level, slewed := old.slewed, residual := old.residual, code := old.code, held := true,
             inactive := false }

/-- The zone records as committed (R77, R78). -/
def State.committedZones (s : State) : Store ZoneRecord :=
  s.banks.pendingBank.zones.update .reset
    (fun z r => if s.drivers.failedZone s.zone.cols z then (s.banks.active.zone z).carryForward r else r) s.zone.n

/-- The sum of the levels of a domain's zones (R61). -/
def domainLevelSum (d : DriverTable) (cols n : Nat) (zones : Store ZoneRecord) (dom : Domain) : Nat :=
  ((List.range n).map fun z =>
    match d.owner (z % cols) (z / cols) with
    | some (_, e) => if e.domain = dom then (zones.get .reset z).level else 0
    | none => 0).sum

/-- The domain holds a zone that the commit carries forward (R61, R78). -/
def DriverTable.domainFailed (d : DriverTable) (dom : Domain) : Bool :=
  d.present.any fun p => p.2.failed && decide (p.2.domain = dom)

/-- The bank that a commit makes ACTIVE (R77, R78, R61). -/
def State.committedBank (s : State) : Bank :=
  { zones := s.committedZones
    domains := .of fun dom =>
      let r := s.banks.pendingBank.domains.get dom
      if s.drivers.domainFailed dom then
        { r with levelSum := domainLevelSum s.drivers s.zone.cols s.zone.n s.committedZones dom }
      else r
    tag := s.banks.pendingBank.tag }

/-- The entry after the commit of a map whose round it failed or did not fail (R112). -/
def DriverEntry.committed (e : DriverEntry) : DriverEntry :=
  if e.failed then
    if e.misses + 1 < Config.missLimit then { e with misses := e.misses + 1, attempts := 0, failed := false }
    else { e with misses := Config.missLimit, state := .unreachable, attempts := 0, failed := false }
  else { e with attempts := 0 }

/-- The entries a commit makes UNREACHABLE, in index order (R112). -/
def DriverTable.lostAtCommit (d : DriverTable) : List Nat :=
  (d.present.filter fun p => p.2.failed && decide (Config.missLimit ≤ p.2.misses + 1)).map Prod.fst

/-- The commit of the pending map (R77, R78, R89, R97, R112). -/
def State.commit (s : State) : State :=
  let c := Schedule.fromCommit s.banks.pendingBank.tag s.sup.scan s.now
  { s with
    banks := { s.banks with active := s.committedBank, pendingBank := s.banks.active, pend := .empty }
    timing := { s.timing with schedule := some c, gateOpen := false }
    link := s.link.sendAll ({ c with cursor := 0 }.latches c.cursor)
    drivers := { (s.drivers.mapEntries DriverEntry.committed) with round := none }
    events := s.events.postAll s.banks.pendingBank.tag
      (s.drivers.lostAtCommit.map fun i => ⟨.driverUnreachable, some i, none, none⟩) }

/-- The commit decision of a frame start (R76, R77, R79). -/
def State.frameStart (s : State) : State :=
  if s.flush.banks.pend = .shipped then s.flush.commit else s.flush.raise .lateCommit

/-! ### Free-run -/

/-- An internal frame start (R83), with the generator set to the next one. -/
def State.internalStart (next : Nat) (s : State) : State :=
  (State.frameStart { s with timing := { s.timing with freeRun := .running next } }).lossSolve

/-- The loss timer expires (R82). -/
def State.lossExpiry (s : State) : State :=
  (({ s with timing := { s.timing with edgeRef := none, lossTimer := none } } : State).post
    .signalLoss none none none).internalStart (s.now + Config.freeRunPeriod)

/-- The loss timeout in µs (R80). -/
def LossSetting.timeout (l : LossSetting) : Nat := l.steps * Config.lossStep

/-- The Frame Timing Unit leaves RUN (R86). -/
def FrameTiming.leaveRun (t : FrameTiming) : FrameTiming :=
  { t with edgeRef := none, lossTimer := none, freeRun := .off }

/-- The scan schedule cancelled and the gate opened (R99). -/
def FrameTiming.cancel (t : FrameTiming) : FrameTiming := { t with schedule := none, gateOpen := true }

/-! ### Operating states -/

/-- The device enters RUN from DISCOVERY (R85, R97, R115, R135). -/
def State.enterRun (s : State) : State :=
  { s with
    sup := { s.sup with op := .run }
    banks := s.banks.clearActive
    timing :=
      { s.timing with
        edgeRef := none, tf := Config.freeRunPeriod, freeRun := .off, schedule := none, gateOpen := true
        lossTimer := if s.timing.hold then none else some s.now }
    drivers := { s.drivers with rotation := none, discovery := none }
    link := { s.link with pollTimer := if s.link.mode = .polled then some s.now else none } }

/-- Discovery ends (R107, R132). -/
def State.discoveryEnd (s : State) : State :=
  if s.drivers.present.any (fun p => decide (p.2.state = .reachable)) then s.enterRun
  else
    State.post .discoveryEmpty none none none
      { s with
        sup := { s.sup with op := .standby }
        drivers := { s.drivers with discovery := none }
        link := { s.link with queue := s.link.queue.filter fun m => !m.isAttention } }

/-- Discovery goes on with the first present entry from an index on, or ends (R105, R107). -/
def State.discoverFrom (first : Nat) (s : State) : State :=
  match s.drivers.present.find? (fun p => decide (first ≤ p.1)) with
  | some (i, e) =>
    { s with
      drivers := { s.drivers with discovery := some i }
      link := s.link.send (configFor i e false) }
  | none => s.discoveryEnd

/-- Entry to DISCOVERY (R105). -/
def State.enterDiscovery (s : State) : State :=
  State.discoverFrom 0
    { s with
      sup := { s.sup with op := .discovery }
      drivers := { (s.drivers.mapEntries DriverEntry.unprobed) with round := none, probes := [] } }

/-- The work of the entry under discovery ends; without a discovery in progress nothing follows (R106, R107). -/
def State.discoveryNext (s : State) : State :=
  match s.drivers.discovery with
  | some i => s.discoverFrom (i + 1)
  | none => s

/-- A solve in flight is voided (R46). -/
def Solver.void (v : Solver) : Solver := { v with voided := v.voided || decide (v.phase ≠ .idle) }

/-- What KILL, and STOP in DISCOVERY or RUN, end (R46, R75, R99, R108, R113, R117, R132). -/
def State.endOperations (s : State) : State :=
  { s with
    banks := s.banks.discard
    solver := s.solver.void
    drivers := s.drivers.endWork
    timing := s.timing.cancel
    link := s.link.quench }

/-- The safety entry of a KILL falling edge (R181). -/
def State.safetyEntry (s : State) : State :=
  State.post .kill none none none
    { s.endOperations with
      timing := if s.sup.op = .run then s.timing.cancel.leaveRun else s.timing.cancel
      sup :=
        { s.sup with
          op := .safe
          latch := .held
          resume := match s.sup.op with
            | .standby => .standby
            | .discovery => .discovery
            | .run => .discovery
            | .safe => s.sup.resume } }

/-- The last result set (R173). -/
def State.result (r : LastResult) (s : State) : State := { s with sup := { s.sup with lastResult := r } }

/-- A taken read command fixes its copy and sets the last result to OK (R174). -/
def State.fixRecord (r : ReadRecord) (s : State) : State :=
  { s with sup := { s.sup with lastResult := .ok, readPointer := some r } }

/-- The chip-select frame in progress now does this. -/
def State.frame (f : PictureFrame) (s : State) : State := { s with picture := { s.picture with frame := f } }

/-! ### Outputs -/

/-- PRDY (R170). -/
def State.prdy (s : State) : Bool := s.zone.storeOpen

/-- MAPRDY (R171). -/
def State.mapRdy (s : State) : Bool := s.banks.waiting

/-- SALERT is pulled low (R158). -/
def State.salertLow (s : State) : Bool := !s.events.records.isEmpty || decide (s.sup.op = .safe)

/-- The seven-bit address the supervisor port answers to (R172). -/
def State.supervisorAddress (s : State) : Nat := 0x38 + s.sup.straps.toNat

/-- The port acknowledges this address byte, in either direction (R172). -/
def State.acknowledges (s : State) (addressByte : Byte) : Bool :=
  addressByte.addresses s.supervisorAddress

end Sys2Proof.Machine
end

