-- ==== Sys2Proof/Machine/Control.lean ====
section
/-! DEFINITION. The supervisor commands that move the device or one of its drivers between states, the KILL pin
and power-on reset (chapters 6, 8 and 10). -/

namespace Sys2Proof.Machine

open Sys2Proof

/-- START (R179). -/
def execStart (_params : List Byte) (s : State) : Host.Outcome State Fault Refusal :=
  .next <|
    if s.sup.op = .standby ∧ s.zone.n ≠ 0 ∧ s.sup.kill = true then (s.result .ok).enterDiscovery
    else s.result .wrongState

/-- STOP (R180). -/
def execStop (_params : List Byte) (s : State) : Host.Outcome State Fault Refusal :=
  .next <|
    match s.sup.op with
    | .safe => s.result .wrongState
    | .standby => s.result .ok
    | .discovery =>
      State.result .ok { s.endOperations with sup := { s.sup with op := .standby } }
    | .run =>
      State.result .ok
        { s.endOperations with
          sup := { s.sup with op := .standby }
          timing := s.timing.cancel.leaveRun }

/-- REARM (R182). -/
def execRearm (_params : List Byte) (s : State) : Host.Outcome State Fault Refusal :=
  .next <|
    if s.sup.op = .safe ∧ s.sup.latch = .released then
      let s' : State :=
        { s with
          banks := s.banks.clearActive
          sup := { s.sup with lastResult := .ok, latch := .clear, op := .standby } }
      match s.sup.resume with
      | .standby => s'
      | .discovery => s'.enterDiscovery
    else s.result .wrongState

/-- The device after a SOFT RESET, before its operating state follows KILL (R183, R20, R47, R71, R101, R142); the
records of PENDING stay (R71, log entry 25). -/
def State.softReset (s : State) : State :=
  { s with
    zone := { s.zone with storeOpen := true, fault := ⟨[]⟩ }
    solver := { s.solver with phase := .idle, voided := false, cursor := 0, sums := .all ⟨0, 0, 0, 0⟩ }
    banks :=
      { s.banks with
        active := .reset .zero, pendingBank := { s.banks.pendingBank with tag := .zero }, pend := .empty }
    timing := .reset s.timing.hold s.timing.fsync
    drivers := { (s.drivers.mapEntries DriverEntry.unprobed) with round := none, rotation := none,
                                                                  discovery := none, probes := [] }
    link := s.link.softReset
    thermal := ⟨[]⟩
    events := ⟨[], false⟩
    picture := ⟨.none, .nothing⟩
    sup :=
      { s.sup with
        op := .standby, latch := .clear, resume := .standby, lastResult := .ok, readPointer := none,
        flags := .none } }

/-- SOFT RESET; with KILL low the steps of the safety entry follow (R183). -/
def execSoftReset (_params : List Byte) (s : State) : Host.Outcome State Fault Refusal :=
  .next <| if s.sup.kill then s.softReset else s.softReset.safetyEntry

/-- ACK ALERT (R150). -/
def execAckAlert (params : List Byte) (s : State) : Host.Outcome State Fault Refusal :=
  .next <|
    match entryIndexOf params with
    | none => s.result .range
    | some i =>
      let r := s.thermal.get .reset i
      if (s.drivers.entryAt i).isSome ∧ r.state ≠ .normal then
        State.result .ok
          { s with thermal := s.thermal.set .reset i { r with state := .acknowledged } }
      else s.result .wrongState

/-- PROBE (R116). -/
def execProbe (params : List Byte) (s : State) : Host.Outcome State Fault Refusal :=
  .next <|
    if s.sup.op = .run then
      match entryIndexOf params with
      | none => s.result .range
      | some i =>
        match s.drivers.entryAt i with
        | some e =>
          if e.state = .unreachable then
            if s.drivers.probes.contains i then s.result .ok
            else
              State.result .ok
                { s with
                  drivers := { s.drivers with probes := s.drivers.probes ++ [i] }
                  link := s.link.send (configFor i e true) }
          else s.result .wrongState
        | none => s.result .wrongState
    else s.result .wrongState

/-- A pin level is taken with its edge once it has held for four reference periods, and an edge takes a new level: one
that the pin has not been taken to have (R189). -/
def pinTaken (held : Nat) : Bool := decide (Config.pinFilter ≤ held)

/-- A KILL falling edge (R181, R189): after a high level too short to be taken it brings no new level. -/
def execKillFallingEdge (held : Nat) (s : State) : Host.Outcome State Fault Refusal :=
  .next <|
    if pinTaken held ∧ s.sup.kill = true then ({ s with sup := { s.sup with kill := false } } : State).safetyEntry
    else s

/-- A KILL rising edge: in SAFE a HELD latch is RELEASED (R181, R189). -/
def execKillRisingEdge (held : Nat) (s : State) : Host.Outcome State Fault Refusal :=
  .next <|
    if pinTaken held ∧ s.sup.kill = false then
      { s with
        sup :=
          { s.sup with
            kill := true
            latch := if s.sup.op = .safe ∧ s.sup.latch = .held then .released else s.sup.latch } }
    else s

/-- Power-on reset: every block in its power-on state (R184) with the PENDING records not cleared (R71); the clock of
the model and the waiting commands are not the device's. -/
def execPowerOnReset (straps : BitVec 2) (holdHigh killHigh : Bool) (s : State) (fsyncHigh : Bool := true) :
    Host.Outcome State Fault Refusal :=
  .next (.powerOn straps fsyncHigh holdHigh killHigh s.banks.pendingBank s.now s.pending)

/-- A write transaction whose command byte names no command (R173). A byte that names a command makes no such
transaction (log entry 3). -/
def execSupervisorUnknownCommand (command : Byte) (s : State) : Host.Outcome State Fault Refusal :=
  .next <| if supervisorCodes.contains command then s else s.result .unknown

end Sys2Proof.Machine
end

