-- ==== Sys2Proof/Machine/Frames.lean ====
section
/-! DEFINITION. Frame starts, HOLD, signal loss, free-run, and the coming due of latches and polls (chapters 4, 5
and 7). -/

namespace Sys2Proof.Machine

open Sys2Proof

/-- The edge is a runt: it comes too soon after the reference (R66). -/
def FrameTiming.runt (t : FrameTiming) (now : Nat) : Bool :=
  match t.edgeRef with
  | some r => decide (now - r < Config.runtLimit)
  | none => false

/-- The Frame Timing Unit at an accepted real frame start outside free-run (R67, R81). -/
def FrameTiming.accept (t : FrameTiming) (now : Nat) : FrameTiming :=
  { t with
    tf := match t.edgeRef with
      | some r => now - r
      | none => t.tf
    edgeRef := some now
    lossTimer := some now }

/-- The Frame Timing Unit at a real frame start that ends free-run (R84). -/
def FrameTiming.restore (t : FrameTiming) (now : Nat) : FrameTiming :=
  { t with freeRun := .off, edgeRef := some now, lossTimer := some now }

/-- A falling edge on FSYNC taken at the present time (R65, R66, R67, R84). -/
def State.fsyncEdge (s : State) : State :=
  if s.sup.op = .run ∧ s.timing.hold = false then
    if s.timing.freeRun = .off then
      if s.timing.runt s.now then s.raise .runtFs
      else State.frameStart { s with timing := s.timing.accept s.now }
    else
      State.frameStart
        (State.post .signalRestored none none none { s with timing := s.timing.restore s.now })
  else s

/-- The FSYNC level as taken (R189). -/
def State.fsyncLevel (high : Bool) (s : State) : State := { s with timing := { s.timing with fsync := high } }

/-- FSYNC_FALLING_EDGE (R65, R189): the high level before it is taken if it held, and the edge is taken if the low level
held and is then a new level. -/
def execFsyncFallingEdge (time held : Nat) (s : State) (high : Nat := 4) : Host.Outcome State Fault Refusal :=
  .next <|
    if pinTaken held then
      if s.timing.fsync = true ∨ pinTaken high then ((s.fsyncLevel false).reach time).fsyncEdge else s
    else s.fsyncLevel (s.timing.fsync || pinTaken high)

/-- HOLD rises (R68): in RUN the reference is cleared, the loss timer stopped and the generator paused. -/
def FrameTiming.holdRise (t : FrameTiming) (op : OpState) : FrameTiming :=
  if op = .run then
    { t with
      hold := true, edgeRef := none, lossTimer := none
      freeRun := match t.freeRun with
        | .off => .off
        | _ => .paused }
  else { t with hold := true }

/-- HOLD_RISE (R68, R189). -/
def execHoldRise (time held : Nat) (s : State) : Host.Outcome State Fault Refusal :=
  .next <|
    if pinTaken held ∧ s.timing.hold = false then { s.reach time with timing := s.timing.holdRise s.sup.op } else s

/-- HOLD falls (R69): in RUN the loss timer starts again, or the generator resumes. -/
def FrameTiming.holdFall (t : FrameTiming) (op : OpState) (now : Nat) : FrameTiming :=
  if op = .run then
    if t.freeRun = .off then { t with hold := false, lossTimer := some now }
    else { t with hold := false, freeRun := .running (now + Config.freeRunPeriod) }
  else { t with hold := false }

/-- HOLD_FALL (R69, R189). -/
def execHoldFall (time held : Nat) (s : State) : Host.Outcome State Fault Refusal :=
  .next <|
    if pinTaken held ∧ s.timing.hold = true then
      { s.reach time with timing := s.timing.holdFall s.sup.op (max s.now time) }
    else s

/-- LOSS_TIMER_EXPIRY (R81, R82): the running timer reaches the loss timeout. -/
def execLossTimerExpiry (s : State) : Host.Outcome State Fault Refusal :=
  .next <|
    match s.timing.lossTimer with
    | some t => (s.reach (t + s.sup.loss.timeout)).lossExpiry
    | none => s

/-- INTERNAL_FRAME_START (R82, R83): the generator's next start. -/
def execInternalFrameStart (s : State) : Host.Outcome State Fault Refusal :=
  .next <|
    match s.timing.freeRun with
    | .running t => (s.reach t).internalStart (t + Config.freeRunPeriod)
    | _ => s

/-- POLL_TIMER_EXPIRY (R135): a POLL is queued if none is, and the timer starts again from 0. -/
def execPollTimerExpiry (s : State) : Host.Outcome State Fault Refusal :=
  .next <|
    match s.link.pollTimer with
    | some t =>
      { s.reach (t + s.link.pollInterval * 1000) with
        link := { s.link.sendPoll with pollTimer := some (t + s.link.pollInterval * 1000) } }
    | none => s

/-- LATCH_DUE (R90): the cursor's band comes due. -/
def execLatchDue (s : State) : Host.Outcome State Fault Refusal :=
  .next <|
    match s.timing.schedule with
    | some c =>
      if c.cursor < c.bands then
        { s.reach (c.dueTime c.cursor) with
          link := s.link.send (.latch c.tag c.cursor)
          timing := { s.timing with schedule := some { c with cursor := c.cursor + 1 } } }
      else s
    | none => s

end Sys2Proof.Machine
end

