-- ==== Sys2Proof/Machine/LinkEvents.lean ====
section
/-! DEFINITION. The events of the drive link: the reset gap, the transmit choice, attention windows and
arbitration, and the ending of every message kind (chapters 6, 7 and 8). -/

namespace Sys2Proof.Machine

open Sys2Proof

/-! ### Idle line -/

/-- RESET_GAP_END (R141): idle periods are counted from 1 after the gap. -/
def execResetGapEnd (s : State) : Host.Outcome State Fault Refusal :=
  .next <|
    if s.link.resetGap then { s with link := { s.link with resetGap := false, idlePeriods := 0 } } else s

/-- The entry a LEVEL or a READ is for (R131). -/
def Message.lookedUp : Message → Option Nat
  | .level i _ _ _ => some i
  | .read i _ _ => some i
  | _ => none

/-- The arbiter removes the message without sending it: its entry is UNREACHABLE, or the device is SAFE and the
message is of class 2, 4 or 5 (R131). -/
def removable (op : OpState) (d : DriverTable) (m : Message) : Bool :=
  (match m.lookedUp with
    | some i =>
      match d.entryAt i with
      | some e => decide (e.state = .unreachable)
      | none => false
    | none => false)
  || (decide (op = .safe) && (m.cls = 2 || m.cls = 4 || m.cls = 5))

/-- The broadcast resend that may begin: in SAFE a BLANK alone (R127, R131). -/
def Link.resendNow (l : Link) (op : OpState) : Option InFlight :=
  match l.resend with
  | some m => if op = .safe ∧ m.msg ≠ .blank then none else some m
  | none => none

/-- The link after a choice: a resend, or the first message that is not removed, begins; or the line stays idle
(R127, R131, R139). -/
def Link.choose (l : Link) (op : OpState) (d : DriverTable) : Link :=
  match l.resendNow op with
  | some m => ({ l with resend := none } : Link).begin m
  | none =>
    match l.queue.dropWhile (removable op d) with
    | [] => { l with resend := none, queue := [] }
    | m :: rest => ({ l with resend := none, queue := rest } : Link).begin ⟨m, true, 0, true⟩

/-- The probes still outstanding after a choice: one whose READ is removed without being sent ends (R116). -/
def Link.probesAfterChoice (l : Link) (op : OpState) (d : DriverTable) : List Nat :=
  match l.resendNow op with
  | some _ => d.probes
  | none =>
    d.probes.filter fun i =>
      !(l.queue.takeWhile (removable op d)).any fun m => match m with
        | .read j _ .probe => i = j
        | _ => false

/-- TRANSMIT_CHOICE (R131): the next idle period in which a message may begin. -/
def execTransmitChoice (s : State) : Host.Outcome State Fault Refusal :=
  .next <|
    if s.link.line = .idle ∧ s.link.resetGap = false then
      { s with
        link := { s.link.choose s.sup.op s.drivers with idlePeriods := nextChoice s.link.idlePeriods }
        drivers := { s.drivers with probes := s.link.probesAfterChoice s.sup.op s.drivers } }
    else s

/-- The windows of the line are sampled, but for the attention hold (R127, R137, R141). -/
def Link.windows (l : Link) : Bool :=
  decide (l.line = .idle) && !l.resetGap && decide (l.lineMode = .quiet) && l.resend.isNone

/-- ATTENTION_START (R137, R139): a sampled window reads low and an arbitration begins. -/
def execAttentionStart (s : State) : Host.Outcome State Fault Refusal :=
  .next <|
    if s.link.windows = true ∧ (s.link.attentionHold = false ∨ s.link.queue = []) then
      { s with
        link := { s.link with
          line := .arbitration, attentionHold := false, idlePeriods := nextWindow s.link.idlePeriods } }
    else s

/-- ATTENTION_WINDOW (R121, R139): any window that finds the transmit queue empty clears the attention hold, be it
sampled or not (log entry 26); a high sample starts no arbitration. -/
def execAttentionWindow (s : State) : Host.Outcome State Fault Refusal :=
  .next <|
    if s.link.line = .idle ∧ s.link.resetGap = false then
      { s with
        link := { s.link with
          attentionHold := s.link.attentionHold && !s.link.queue.isEmpty
          idlePeriods := nextWindow s.link.idlePeriods } }
    else s

/-- ARBITRATION_END (R138, R139, R140): the hold is set, and the address of an arbitration that is not void is an
attention request. -/
def execArbitrationEnd (sampled : BitVec 8) (s : State) (wide : Bool := false) : Host.Outcome State Fault Refusal :=
  .next <|
    if s.link.line = .arbitration then
      let l : Link := { s.link.finish wide with attentionHold := true }
      { s with
        link := match arbitrationAddress sampled with
          | some a => l.attentionRequest s.sup.op s.drivers a
          | none => l }
    else s

/-! ### Shipping -/

/-- A LEVEL sent adds one to the entry's attempt count, which is 0..3 (R101, R110). -/
def DriverEntry.attempted (e : DriverEntry) : DriverEntry :=
  { e with attempts := min Config.attempts (e.attempts + 1) }

/-- An entry leaves the head of the round's list as failed this frame (R110). -/
def DriverTable.failEntry (d : DriverTable) (i : Nat) (e : DriverEntry) (list : List Nat) : DriverTable :=
  { d.put i (some { e.attempted with state := .failing, failed := true }) with
    round := some (list.erase i) }

/-- The Driver Table at the ending of a LEVEL for an entry (R110). -/
def DriverTable.levelEnded (d : DriverTable) (i : Nat) (x : Ending) : DriverTable :=
  match d.entryAt i, d.round with
  | some e, some list =>
    match x with
    | .accept =>
      { d.put i (some { e.attempted with
          misses := 0, state := if e.state = .failing then .reachable else e.state }) with
        round := some (list.erase i) }
    | .busy =>
      if e.attempts + 1 < Config.attempts then
        { d.put i (some e.attempted) with round := some (list.erase i ++ [i]) }
      else d.failEntry i e list
    | _ =>
      if e.attempts + 1 < Config.attempts then d.put i (some e.attempted)
      else d.failEntry i e list
  | _, _ => d

/-- LEVEL_ENDING (R110, R113, R126). -/
def execLevelEnding (status : LinkStatus) (s : State) (wide : Bool := false) : Host.Outcome State Fault Refusal :=
  .next <|
    match s.link.line with
    | .message ⟨.level i _ _ _, claim, _, _⟩ =>
      if claim then
        State.continueRound
          { s with link := s.link.finish wide, drivers := s.drivers.levelEnded i (endingOf status) }
      else { s with link := s.link.finish wide }
    | _ => s

/-! ### Broadcasts -/

/-- A broadcast with an error report is to be resent: its claim stands and a resend is left (R127). -/
def InFlight.resendAfter (m : InFlight) (errorReport : Bool) : Bool :=
  errorReport && m.claim && decide (m.resends < Config.resends)

/-- The last band's LATCH has ended: the schedule is IDLE, the gate OPEN, and a waiting map ships (R91, R97,
R109). Before that the bands-ended count rises. -/
def State.bandEnded (s : State) : State :=
  match s.timing.schedule with
  | some c =>
    if c.ended + 1 < c.bands then
      { s with timing := { s.timing with schedule := some { c with ended := c.ended + 1 } } }
    else State.beginRound { s with timing := s.timing.cancel }
  | none => s

/-- LATCH_ENDING (R91, R127): resent after an error report, or counted as sent. -/
def execLatchEnding (errorReport : Bool) (s : State) (wide : Bool := false) : Host.Outcome State Fault Refusal :=
  .next <|
    match s.link.line with
    | .message ⟨.latch tag band, claim, resends, kept⟩ =>
      let m : InFlight := ⟨.latch tag band, claim, resends, kept⟩
      if m.resendAfter errorReport then
        { s with link := { s.link.finish wide with resend := some { m with resends := resends + 1 } } }
      else if claim then State.bandEnded { s with link := s.link.finish wide }
      else { s with link := s.link.finish wide }
    | _ => s

/-- BLANK_ENDING (R127): resent after an error report, or counted as sent. -/
def execBlankEnding (errorReport : Bool) (s : State) (wide : Bool := false) : Host.Outcome State Fault Refusal :=
  .next <|
    match s.link.line with
    | .message ⟨.blank, claim, resends, kept⟩ =>
      let m : InFlight := ⟨.blank, claim, resends, kept⟩
      if m.resendAfter errorReport then
        { s with link := { s.link.finish wide with resend := some { m with resends := resends + 1 } } }
      else { s with link := s.link.finish wide }
    | _ => s

/-! ### CONFIG -/

/-- The state of one entry changed. -/
def DriverTable.setState (d : DriverTable) (i : Nat) (x : DriverState) : DriverTable :=
  match d.entryAt i with
  | some e => d.put i (some { e with state := x })
  | none => d

/-- DISCOVERY_CONFIG_ENDING (R106, R108). -/
def execDiscoveryConfigEnding (status : LinkStatus) (s : State) (wide : Bool := false) :
    Host.Outcome State Fault Refusal :=
  .next <|
    match s.link.line with
    | .message ⟨.config i addr _ _ _ _ false, claim, _, _⟩ =>
      if claim then
        if endingOf status = .accept then
          { s with
            link := (s.link.finish wide).send (.read i addr .discovery)
            drivers := s.drivers.setState i .reachable }
        else
          State.discoveryNext <| State.post .driverUnreachable (some i) none none
            { s with link := s.link.finish wide, drivers := s.drivers.setState i .unreachable }
      else { s with link := s.link.finish wide }
    | _ => s

/-- The Driver Table when a PROBE's CONFIG ends ACCEPT: REACHABLE with counts 0, joining a round in progress
(R111, R117). -/
def DriverTable.recover (d : DriverTable) (i : Nat) (pend : PendState) : DriverTable :=
  match d.entryAt i with
  | some e =>
    { d.put i (some { e with state := .reachable, misses := 0, attempts := 0 }) with
      round := match d.round with
        | some list => if pend = .solved then some (list ++ [i]) else some list
        | none => none }
  | none => d

/-- PROBE_CONFIG_ENDING (R117). -/
def execProbeConfigEnding (status : LinkStatus) (s : State) (wide : Bool := false) : Host.Outcome State Fault Refusal :=
  .next <|
    match s.link.line with
    | .message ⟨.config i addr _ _ _ _ true, claim, _, _⟩ =>
      if claim then
        if endingOf status = .accept then
          State.post .driverRecovered (some i) none none
            { s with
              link := (s.link.finish wide).send (.read i addr .probe)
              drivers := s.drivers.recover i s.banks.pend }
        else
          { s with
            link := s.link.finish wide
            drivers := { s.drivers with probes := s.drivers.probes.filter fun j => j ≠ i } }
      else { s with link := s.link.finish wide }
    | _ => s

/-! ### READ -/

/-- The thermal state and the post of a valid read at temperature `t` with threshold `ta` (R149). -/
def alertMove (x : ThermalState) (t ta : Int) : ThermalState × Option EventKind :=
  match x with
  | .normal => if ta ≤ t then (.alert, some .thermalAlert) else (.normal, none)
  | .alert =>
    if ta ≤ t then (.alert, some .thermalAlert)
    else if ta - Config.hysteresis ≤ t then (.alert, none)
    else (.normal, some .thermalNormal)
  | .acknowledged =>
    if ta - Config.hysteresis ≤ t then (.acknowledged, none) else (.normal, some .thermalNormal)

/-- The thermal record after a valid read (R145, R148, R149). -/
def ThermalRecord.valid (r : ThermalRecord) (d : DerateSetting) (p : ReadReport) : ThermalRecord :=
  { temp := p.temp, run := 0, cap := derateCap d p.temp false, state := (alertMove r.state p.temp d.ta).1,
    cause := p.cause }

/-- The thermal record after an invalid read (R146, R148). -/
def ThermalRecord.invalid (r : ThermalRecord) (d : DerateSetting) : ThermalRecord :=
  { r with
    run := min Config.blindRun (r.run + 1)
    cap := derateCap d r.temp (decide (Config.blindRun ≤ r.run + 1)) }

/-- The zone a fault entry of a driver names, or none outside its tile (R152). -/
def faultZone (cols : Nat) (t : Tile) (f : FaultEntry) : Option Nat :=
  if f.zone < t.width * t.height then
    some (zoneIndex cols (t.col + f.zone % t.width) (t.row + f.zone / t.width))
  else none

/-- The posts of a valid read, in order: the thermal state's, then the fault entries' (R144, R149, R152). -/
def validPosts (cols i : Nat) (e : DriverEntry) (r : ThermalRecord) (d : DerateSetting) (p : ReadReport) :
    List Post :=
  (match (alertMove r.state p.temp d.ta).2 with
    | some k => [⟨k, some i, none, some p.temp⟩]
    | none => [])
  ++ p.faults.filterMap fun f =>
      (faultZone cols e.tile f).map fun z => ⟨if f.short then .zoneShort else .zoneOpen, some i, some z, none⟩

/-- The posts of an invalid read: one when the run reaches 8 (R146). -/
def invalidPosts (i : Nat) (r : ThermalRecord) : List Post :=
  if r.run + 1 = Config.blindRun then [⟨.thermalAlert, some i, none, none⟩] else []

/-- Fault marks set for these zones (R152). -/
def markFaults (m : Store Bool) : List Nat → Store Bool
  | [] => m
  | z :: rest => markFaults (m.set false z true) rest

/-- A READ ending taken for an entry, handled whole (R144). -/
def State.takeRead (s : State) (i : Nat) (e : DriverEntry) (p : Option ReadReport) : State :=
  let r := s.thermal.get .reset i
  match p with
  | some p =>
    { s with
      thermal := s.thermal.set .reset i (r.valid s.sup.derate p)
      events := s.events.postAll s.banks.active.tag (validPosts s.zone.cols i e r s.sup.derate p)
      zone := { s.zone with
        fault := markFaults s.zone.fault (p.faults.filterMap (faultZone s.zone.cols e.tile)) } }
  | none =>
    { s with
      thermal := s.thermal.set .reset i (r.invalid s.sup.derate)
      events := s.events.postAll s.banks.active.tag (invalidPosts i r) }

/-- A READ ending handed to the Thermal and Event Unit: dropped when its entry is absent or has been loaded since
the READ began (R144). -/
def State.handRead (s : State) (i : Nat) (kept : Bool) (p : Option ReadReport) : State :=
  match s.drivers.entryAt i with
  | some e => if kept then s.takeRead i e p else s
  | none => s

/-- What follows a READ for the one that asked, unless its claim was withdrawn (R106, R116, R126). -/
def State.readFollows (s : State) (i : Nat) (asker : ReadAsker) (claim : Bool) : State :=
  match asker with
  | .discovery => if claim then s.discoveryNext else s
  | .probe =>
    if claim then
      { s with drivers := { s.drivers with probes := s.drivers.probes.filter fun j => j ≠ i } }
    else s
  | .attention => s
  | .rotation => s

/-- READ_ENDING (R144, R129). -/
def execReadEnding (status : LinkStatus) (response : List Bool) (s : State) (wide : Bool := false) :
    Host.Outcome State Fault Refusal :=
  .next <|
    match s.link.line with
    | .message ⟨.read i _ asker, claim, _, kept⟩ =>
      (({ s with link := s.link.finish wide } : State).handRead i kept (readReportOf status response)).readFollows
        i asker claim
    | _ => s

/-! ### POLL -/

/-- The addresses whose slots were read low, in address order; none when the POLL is void (R136). -/
def pollRequests (lowSlots : BitVec 63) : List Nat :=
  if lowSlots = BitVec.allOnes 63 then [] else (List.range 63).filter fun a => lowSlots.getLsbD a

/-- POLL_ENDING (R136). -/
def execPollEnding (lowSlots : BitVec 63) (s : State) (wide : Bool := false) : Host.Outcome State Fault Refusal :=
  .next <|
    match s.link.line with
    | .message ⟨.poll, _, _, _⟩ =>
      { s with link := Link.attentionRequests s.sup.op s.drivers (s.link.finish wide) (pollRequests lowSlots) }
    | _ => s

end Sys2Proof.Machine
end

