-- ==== Sys2Proof/Machine/Picture.lean ====
section
/-! DEFINITION. The picture-port commands (chapters 1, 2, 3 and 9). A command whose frame a reset has cut is not judged
and changes nothing: the rest of that frame is ignored and answers zero bytes (R160). -/

namespace Sys2Proof.Machine

open Sys2Proof

/-- A write header is valid: the start zone is in range and the order names one (R5). -/
def validHeader (n : Nat) (position : BitVec 16) : Option WriteOrder :=
  if positionStart position < n then positionOrder position else none

/-- WRITE DEMAND's header is whole (R8): late, refused without a trace, or taken. -/
def execWriteDemand (position : BitVec 16) (s : State) (cut : Bool := false) : Host.Outcome State Fault Refusal :=
  .next <|
    if cut then s.frame .nothing
    else if s.zone.storeOpen then
      match validHeader s.zone.n position with
      | some o => s.frame (.writeDemand o (positionOf o s.zone.cols s.zone.rows (positionStart position)))
      | none => s.frame .nothing
    else (s.raise .lateWrite).frame .nothing

/-- A whole demand value of a taken WRITE DEMAND is written, and the next position follows (R5, R9). A value of
a frame that is no taken WRITE DEMAND is discarded (R8, R3). -/
def execDemandValue (value : Demand) (s : State) : Host.Outcome State Fault Refusal :=
  .next <|
    match s.picture.frame with
    | .writeDemand o p =>
      State.frame (.writeDemand o ((p + 1) % s.zone.n))
        { s with zone := { s.zone with
            demand := s.zone.demand.set 0 (zoneAt o s.zone.cols s.zone.rows p) value } }
    | _ => s

/-- WRITE GAIN's header is whole (R12, R164): the demand store state does not concern it. -/
def execPictureWriteGain (set : Byte) (position : BitVec 16) (s : State) (cut : Bool := false) :
    Host.Outcome State Fault Refusal :=
  .next <|
    if cut then s.frame .nothing
    else
      match validHeader s.zone.n position with
      | some o =>
        s.frame (.writeGain (gainSetOf set) o (positionOf o s.zone.cols s.zone.rows (positionStart position)))
      | none => s.frame .nothing

/-- One gain of a taken WRITE GAIN: written, or dropped for a lock with GAIN-LOCKED set (R12, R164). -/
def execPictureGainValue (value : BitVec 16) (s : State) : Host.Outcome State Fault Refusal :=
  .next <|
    match s.picture.frame with
    | .writeGain g o p =>
      let z := zoneAt o s.zone.cols s.zone.rows p
      let s' := s.frame (.writeGain g o ((p + 1) % s.zone.n))
      if s.zone.locked z then s'.raise .gainLocked
      else { s' with zone := s.zone.putGain g z (gainOf value) }
    | _ => s

/-- The parameters a picture solve copies from its CLOSE FRAME and from the settings (R25, R51). -/
def State.pictureParams (s : State) (r : CloseRecord) : SolveParams :=
  { gainSet := s.zone.liveSet
    rise := match r.overrides with
      | some (rise, _) => rise
      | none => s.sup.rise
    fall := match r.overrides with
      | some (_, fall) => fall
      | none => s.sup.fall
    tf := clampTf s.timing.tf
    sceneCut := r.sceneCut
    windows := r.windows.filterMap (clipWindow s.zone.cols s.zone.rows)
    lossLevel := 0 }

/-- What a taken CLOSE FRAME does to uncommitted work: a waiting map is superseded (R43), a kept solve in flight
is abandoned with SUPERSEDED, a voided one without (R44). -/
def State.replaceWork (s : State) : State :=
  if s.solver.phase = .idle then (if s.banks.waiting then s.supersede else s)
  else s.raiseIf (!s.solver.voided) .superseded

/-- CLOSE FRAME, judged as chip select rises (R22, R163): refused, or taken and a picture solve starts. -/
def execCloseFrame (record : List Byte) (s : State) (cut : Bool := false) : Host.Outcome State Fault Refusal :=
  .next <| State.frame .nothing <|
    if cut then s
    else
      match closeRecordOf record with
      | some r =>
        if s.sup.op = .run ∧ s.zone.storeOpen = true then
          s.replaceWork.startSolve .picture (s.pictureParams r) r.epoch
        else s.raise .closeRefused
      | none => s.raise .closeRefused

/-- The answer of a picture READ MAP (R165, R166). -/
def State.pictureMap (s : State) (pendingNamed : Bool) (startZone count : Nat) : MapAnswer :=
  if s.sup.op = .safe then ⟨some .blanked, .zero, []⟩
  else if startZone < s.zone.n ∧ 1 ≤ count ∧ count ≤ Config.maxZones then
    if pendingNamed then
      if s.banks.waiting then
        ⟨some .valid, s.banks.pendingBank.tag, s.banks.pendingBank.entriesFrom s.zone.n startZone count⟩
      else ⟨some .stale, .zero, List.replicate count ZoneRecord.reset.entry⟩
    else ⟨some .valid, s.banks.active.tag, s.banks.active.entriesFrom s.zone.n startZone count⟩
  else ⟨none, .zero, []⟩

/-- READ MAP's header is whole: the status is fixed and the copy taken (R165, R166). -/
def execPictureReadMap (bank : Byte) (start count : BitVec 16) (s : State) (cut : Bool := false) :
    Host.Outcome State Fault Refusal :=
  .next <|
    if cut then s.frame .nothing
    else s.frame (.readMap (s.pictureMap (bank.getLsbD 0) (readStart start) count.toNat))

/-- The record of a picture READ STATUS (R168). -/
def State.pictureStatus (s : State) : PictureStatus :=
  ⟨s.zone.storeOpen, s.banks.pend, s.banks.active.tag, s.timing.tf, s.sup.op, s.picture.flags⟩

/-- READ STATUS: the record is taken and the picture copy of the flags cleared (R168). -/
def execPictureReadStatus (s : State) (cut : Bool := false) : Host.Outcome State Fault Refusal :=
  .next <| if cut then s.frame .nothing else { s with picture := ⟨.none, .readStatus s.pictureStatus⟩ }

/-- READ GAIN's header is whole; out of range it answers gains of 0 (R14, R164). -/
def execPictureReadGain (set : Byte) (start count : BitVec 16) (s : State) (cut : Bool := false) :
    Host.Outcome State Fault Refusal :=
  .next <|
    if cut then s.frame .nothing
    else if readStart start < s.zone.n ∧ 1 ≤ count.toNat ∧ count.toNat ≤ Config.maxZones then
      s.frame (.readGain (gainSetOf set) (readStart start) count.toNat)
    else s.frame .nothing

/-- A frame with an undefined command byte is ignored to its end (R160). A byte that names a command makes no
such frame (log entry 3). -/
def execPictureUnknownCommand (command : Byte) (s : State) : Host.Outcome State Fault Refusal :=
  .next <| if pictureCodes.contains command then s else s.frame .nothing

end Sys2Proof.Machine
end

