-- ==== Sys2Proof/Machine/Reads.lean ====
section
/-! DEFINITION. The supervisor's read commands: each fixes a copy that the next read transactions clock out
(R174). -/

namespace Sys2Proof.Machine

open Sys2Proof

/-- The record of the supervisor's READ STATUS (R175, R187). It holds no pending state: R73 says that both ports report
it in READ STATUS, R175 that the supervisor record does not, and R187's layout has no place for it; the model follows
R175 (DESIGN CHOICE, log entry 23). -/
def State.supervisorStatus (s : State) : SupervisorStatus :=
  ⟨s.sup.op, s.sup.lastResult, s.sup.flags, s.events.overflow, s.banks.active.tag, s.timing.tf,
    s.drivers.reachableCount, s.link.lineMode, s.sup.latch⟩

/-- READ STATUS: the copy is taken, then the supervisor copy of the flags is cleared (R155, R175). -/
def execSupervisorReadStatus (_params : List Byte) (s : State) : Host.Outcome State Fault Refusal :=
  .next <| State.fixRecord (.status s.supervisorStatus)
    { s with sup := { s.sup with flags := .none }, events := { s.events with overflow := false } }

/-- POP EVENT: the oldest record is removed and copied, or a record of kind NONE (R156). -/
def execPopEvent (_params : List Byte) (s : State) : Host.Outcome State Fault Refusal :=
  .next <| State.fixRecord (.event s.events.records.head?)
    { s with events := { s.events with records := s.events.records.tail } }

/-- READ DRIVER (R176, R119, R159). -/
def execReadDriver (params : List Byte) (s : State) : Host.Outcome State Fault Refusal :=
  .next <|
    match entryIndexOf params with
    | some i => s.fixRecord (.driver (s.drivers.entryAt i) (s.thermal.get .reset i))
    | none => s.result .range

/-- READ MAP of the supervisor port: ACTIVE, or BLANKED in SAFE (R176). -/
def execSupervisorReadMap (params : List Byte) (s : State) : Host.Outcome State Fault Refusal :=
  .next <|
    match params with
    | a :: b :: c :: d :: _ =>
      if s.sup.op = .safe then
        s.fixRecord (.map ⟨some .blanked, .zero, List.replicate (be16 c d) ZoneRecord.reset.entry⟩)
      else if be16 a b < s.zone.n ∧ 1 ≤ be16 c d ∧ be16 c d ≤ Config.maxZones then
        s.fixRecord (.map ⟨some .valid, s.banks.active.tag,
          s.banks.active.entriesFrom s.zone.n (be16 a b) (be16 c d)⟩)
      else s.result .range
    | _ => s.result .range

/-- READ POWER (R62, R176). -/
def execReadPower (_params : List Byte) (s : State) : Host.Outcome State Fault Refusal :=
  .next <| s.fixRecord (.power s.banks.active.domains)

/-- READ GAIN of the supervisor port: every gain as stored, locked or not (R14). -/
def execSupervisorReadGain (params : List Byte) (s : State) : Host.Outcome State Fault Refusal :=
  .next <|
    match params with
    | g :: a :: b :: c :: d :: _ =>
      if be16 a b < s.zone.n ∧ 1 ≤ be16 c d ∧ be16 c d ≤ Config.maxZones then
        s.fixRecord (.gains ((List.range (be16 c d)).map fun k =>
          s.zone.gainAt (gainSetOf g) ((be16 a b + k) % s.zone.n)))
      else s.result .range
    | _ => s.result .range

end Sys2Proof.Machine
end

