-- ==== Sys2Proof/Machine/Settings.lean ====
section
/-! DEFINITION. The supervisor commands that configure the device: grid, driver table, settings, gains, locks
and zone attributes (chapters 1, 3, 4, 5, 6, 7, 8 and 10). -/

namespace Sys2Proof.Machine

open Sys2Proof

/-- The Zone Store after a taken SET GRID (R3). -/
def ZoneStore.regrid (z : ZoneStore) (c r : Nat) : ZoneStore :=
  { z with cols := c, rows := r, demand := ⟨[]⟩, gainA := ⟨[]⟩, gainB := ⟨[]⟩, enable := ⟨[]⟩, fault := ⟨[]⟩ }

/-- The frame in progress after a SET GRID: a WRITE DEMAND, WRITE GAIN or READ GAIN ends (R3). -/
def PictureFrame.afterRegrid : PictureFrame → PictureFrame
  | .readMap a => .readMap a
  | .readStatus r => .readStatus r
  | _ => .nothing

/-- SET GRID (R2, R3). -/
def execSetGrid (params : List Byte) (s : State) : Host.Outcome State Fault Refusal :=
  .next <|
    if s.sup.op = .standby ∧ s.solver.phase = .idle then
      match params with
      | c :: r :: _ =>
        if 1 ≤ c.toNat ∧ c.toNat ≤ 64 ∧ 1 ≤ r.toNat ∧ r.toNat ≤ 40 then
          if s.zone.anyLock then s.result .locked
          else
            State.result .ok
              { s with
                zone := s.zone.regrid c.toNat r.toNat
                drivers := { s.drivers with entries := ⟨[]⟩ }
                link := s.link.entryGone fun _ => true
                picture := { s.picture with frame := s.picture.frame.afterRegrid } }
        else s.result .range
      | _ => s.result .range
    else s.result .wrongState

/-- A present load passes the checks against the grid and the other entries (R102). -/
def State.admitsLoad (s : State) (i : Nat) (e : DriverEntry) : Bool :=
  e.tile.col + e.tile.width ≤ s.zone.cols && e.tile.row + e.tile.height ≤ s.zone.rows
    && s.drivers.present.all fun p => p.1 = i || (!e.tile.overlaps p.2.tile && p.2.addr ≠ e.addr)

/-- LOAD DRIVER (R102, R103, R143, R144). -/
def execLoadDriver (params : List Byte) (s : State) : Host.Outcome State Fault Refusal :=
  .next <|
    if s.sup.op = .standby then
      match entryIndexOf params, driverLoadOf (params.drop 1) with
      | some i, some .absent =>
        State.result .ok
          { s with drivers := s.drivers.put i none, link := s.link.entryGone fun j => i = j }
      | some i, some (.present e) =>
        if s.admitsLoad i e then
          State.result .ok
            { s with
              drivers := s.drivers.put i (some e)
              link := s.link.entryGone fun j => i = j
              thermal := s.thermal.set .reset i .reset }
        else s.result .range
      | _, _ => s.result .range
    else s.result .wrongState

/-- SET BUDGET (R49). -/
def execSetBudget (params : List Byte) (s : State) : Host.Outcome State Fault Refusal :=
  .next <|
    match budgetOf params with
    | some (d, b) => State.result .ok { s with sup := { s.sup with budgets := s.sup.budgets.set d b } }
    | none => s.result .range

/-- SET SLEW (R177). -/
def execSetSlew (params : List Byte) (s : State) : Host.Outcome State Fault Refusal :=
  .next <|
    match slewOf params with
    | some (rise, fall) => State.result .ok { s with sup := { s.sup with rise := rise, fall := fall } }
    | none => s.result .range

/-- SET DERATE (R147). -/
def execSetDerate (params : List Byte) (s : State) : Host.Outcome State Fault Refusal :=
  .next <|
    match derateOf params with
    | some d => State.result .ok { s with sup := { s.sup with derate := d } }
    | none => s.result .range

/-- SET SCAN (R87). -/
def execSetScan (params : List Byte) (s : State) : Host.Outcome State Fault Refusal :=
  .next <|
    match scanOf params with
    | some g => State.result .ok { s with sup := { s.sup with scan := g } }
    | none => s.result .range

/-- The poll timer after a taken SET LINK (R135). -/
def Link.pollAfter (l : Link) (k : LinkSetting) (op : OpState) (now : Nat) : Option Nat :=
  match k.mode with
  | .quiet => none
  | .polled =>
    if op = .run ∧ (l.mode = .quiet ∨ l.pollInterval ≠ k.interval) then some now else l.pollTimer

/-- The link after a taken SET LINK (R120, R133, R134, R135). A mode that changes while the line is busy may fall before
or inside the stop pulse, and the pulse's width tells which (log entry 11). -/
def Link.configure (l : Link) (k : LinkSetting) (op : OpState) (now : Nat) : Link :=
  { l with
    rate := k.rate
    lineRate := if l.line = .idle then k.rate else l.lineRate
    mode := k.mode
    modeMoved := l.modeMoved || (decide (l.line ≠ .idle) && decide (k.mode ≠ l.mode))
    pollInterval := k.interval
    pollTimer := l.pollAfter k op now
    queue := if l.mode = .polled ∧ k.mode = .quiet then l.queue.filter (fun m => m ≠ .poll) else l.queue }

/-- SET LINK (R134). -/
def execSetLink (params : List Byte) (s : State) : Host.Outcome State Fault Refusal :=
  .next <|
    match linkOf params with
    | some k =>
      if k.rate = s.link.rate ∨ s.sup.op = .standby then
        State.result .ok { s with link := s.link.configure k s.sup.op s.now }
      else s.result .wrongState
    | none => s.result .range

/-- SET LOSS: the new timeout reaches a running loss timer at once (R80). -/
def execSetLoss (params : List Byte) (s : State) : Host.Outcome State Fault Refusal :=
  .next <|
    match lossOf params with
    | some g =>
      let s' := State.result .ok { s with sup := { s.sup with loss := g } }
      match s.timing.lossTimer with
      | some t => if g.timeout ≤ s.now - t then s'.lossExpiry else s'
      | none => s'
    | none => s.result .range

/-- The header of a supervisor WRITE GAIN and its gains: set, order, start zone, gains (R13, R187). -/
def writeGainOf (n : Nat) : List Byte → Option (GainSet × WriteOrder × Nat × List Gain)
  | g :: h :: l :: rest =>
    if positionStart (h ++ l) < n ∧ 1 ≤ (gainsOf rest).length ∧ (gainsOf rest).length ≤ 64 then
      (positionOrder (h ++ l)).map fun o => (gainSetOf g, o, positionStart (h ++ l), gainsOf rest)
    else none
  | _ => none

/-- WRITE GAIN of the supervisor port, judged as a whole (R13). -/
def execSupervisorWriteGain (params : List Byte) (s : State) : Host.Outcome State Fault Refusal :=
  .next <|
    match writeGainOf s.zone.n params with
    | some (g, o, first, gains) =>
      if (s.zone.visited o first gains.length).any s.zone.locked then s.result .locked
      else
        State.result .ok
          { s with zone := s.zone.putGains g ((s.zone.visited o first gains.length).zip gains) }
    | none => s.result .range

/-- SELECT GAIN SET (R11). -/
def execSelectGainSet (params : List Byte) (s : State) : Host.Outcome State Fault Refusal :=
  .next <|
    match params with
    | g :: _ => State.result .ok { s with zone := { s.zone with liveSet := gainSetOf g } }
    | [] => s.result .range

/-- LOCK RANGE (R16). -/
def execLockRange (params : List Byte) (s : State) : Host.Outcome State Fault Refusal :=
  .next <|
    match params with
    | slot :: rest =>
      if slot.toNat < Config.lockSlots then
        if (s.zone.lockAt slot.toNat).isSome then s.result .locked
        else
          match zoneRangeOf s.zone.n rest with
          | some r =>
            State.result .ok
              { s with zone := { s.zone with locks := s.zone.locks.set none slot.toNat (some r) } }
          | none => s.result .range
      else s.result .range
    | [] => s.result .range

/-- ZONE ENABLE (R17). -/
def execZoneEnable (params : List Byte) (s : State) : Host.Outcome State Fault Refusal :=
  .next <|
    match zoneRangeOf s.zone.n params, params.drop 4 with
    | some r, on :: _ =>
      State.result .ok
        { s with zone := { s.zone with enable := s.zone.enable.fill true r.first r.last (on.getLsbD 0) } }
    | _, _ => s.result .range

/-- CLEAR FAULT (R18). -/
def execClearFault (params : List Byte) (s : State) : Host.Outcome State Fault Refusal :=
  .next <|
    match zoneRangeOf s.zone.n params with
    | some r =>
      State.result .ok { s with zone := { s.zone with fault := s.zone.fault.fill false r.first r.last false } }
    | none => s.result .range

end Sys2Proof.Machine
end

