-- ==== Sys2Proof/Machine/Solve.lean ====
section
/-! DEFINITION. The passes of the frame solve (chapters 2 and 3). -/

namespace Sys2Proof.Machine

open Sys2Proof

/-- ceil(N / 32): the length of a pass in µs (R21). -/
def passTime (n : Nat) : Nat := (n + 31) / Config.zonesPerMicrosecond

/-- The time from the start of a pass at which it has handled a zone: in the microsecond that begins at
floor(i / 32), the last zone at the end of the pass (R21). -/
def zoneTime (n i : Nat) : Nat := if i + 1 < n then i / Config.zonesPerMicrosecond else passTime n

/-- The class of a zone (R29). -/
inductive ZoneClass where
  | carried (e : SnapEntry)
  | inactive
  | active (e : SnapEntry)
  deriving DecidableEq, Repr

/-- The driver of a zone in the snapshot (R28). -/
def Solver.ownerOf (v : Solver) (cols z : Nat) : Option SnapEntry :=
  v.snapshot.find? fun e => e.tile.contains (z % cols) (z / cols)

/-- A zone's focus membership in this solve (R52). -/
def Solver.inFocus (v : Solver) (cols z : Nat) : Bool :=
  v.params.windows.any fun w => w.contains (z % cols) (z / cols)

/-- The class of a zone as pass 1 reaches it (R29). -/
def State.classify (s : State) (z : Nat) : ZoneClass :=
  match s.solver.ownerOf s.zone.cols z with
  | none => .inactive
  | some e =>
    if e.unreachable then .carried e
    else if s.zone.enabled z = false ∨ s.zone.faulty z = true then .inactive
    else .active e

/-- The demand an active zone takes (R19, R25, R27). -/
def State.demandFor (s : State) (z : Nat) : Nat :=
  match s.solver.kind with
  | .picture => (s.zone.demandAt z).toNat
  | .loss => s.solver.params.lossLevel

/-- The slewed level S of an active zone (R32, R34). -/
def State.slewedFor (s : State) (z : Nat) : Nat :=
  slewStage s.solver.params (calibrate (s.demandFor z) (s.zone.gainAt s.solver.params.gainSet z).toNat)
    (s.banks.active.zone z).slewed

/-- The capped level H of an active zone of a driver (R35). -/
def State.cappedFor (s : State) (e : SnapEntry) (z : Nat) : Nat :=
  min (s.slewedFor z) (s.thermal.get .reset e.index).cap

/-- The pending record that pass 1 leaves for a zone (R30, R31, R34, R35, R36). For an active zone the residual
and the code stay as the bank holds them until pass 2 writes them. -/
def State.pass1Record (s : State) (z : Nat) : ZoneRecord :=
  match s.classify z with
  | .carried _ =>
    { s.banks.active.zone z with
      held := true, fault := s.zone.faulty z, focus := s.solver.inFocus s.zone.cols z, inactive := false }
  | .inactive =>
    ⟨0, 0, 0, 0, false, s.zone.faulty z, s.solver.inFocus s.zone.cols z, true⟩
  | .active e =>
    { s.banks.pendingBank.zone z with
      level := s.cappedFor e z, slewed := s.slewedFor z, held := false, fault := false,
      focus := s.solver.inFocus s.zone.cols z, inactive := false }

/-- A sum of one domain raised (R30, R36). -/
def DomainSums.add (d : DomainSums) (carried focus nonFocus level : Nat) : DomainSums :=
  ⟨d.carried + carried, d.focus + focus, d.nonFocus + nonFocus, d.level + level⟩

/-- The domain sums after pass 1 has handled a zone (R30, R31, R36). -/
def State.pass1Sums (s : State) (z : Nat) : PerDomain DomainSums :=
  match s.classify z with
  | .carried e =>
    s.solver.sums.set e.domain ((s.solver.sums.get e.domain).add (s.banks.active.zone z).level 0 0 0)
  | .inactive => s.solver.sums
  | .active e =>
    if s.solver.inFocus s.zone.cols z then
      s.solver.sums.set e.domain ((s.solver.sums.get e.domain).add 0 (s.cappedFor e z) 0 0)
    else s.solver.sums.set e.domain ((s.solver.sums.get e.domain).add 0 0 (s.cappedFor e z) 0)

/-- What the factor step copies on its entry (R37, R53). -/
def State.factorInputs (s : State) : PerDomain FactorInput :=
  .of fun d =>
    ⟨(s.sup.budgets.get d).budget, (s.sup.budgets.get d).recovery, (s.banks.active.domains.get d).kn,
      (s.banks.active.domains.get d).kf⟩

/-- PASS1_ZONE (R29 to R36, R7): the cursor's zone; at zone N − 1 the solver enters FACTOR, and a picture solve
reopens the demand store. -/
def execPass1Zone (s : State) : Host.Outcome State Fault Refusal :=
  .next <|
    if s.solver.phase = .pass1 ∧ s.solver.cursor < s.zone.n then
      let z := s.solver.cursor
      let last := decide (z + 1 = s.zone.n)
      { s.reach (s.solver.startTime + zoneTime s.zone.n z) with
        solver :=
          { s.solver with
            sums := s.pass1Sums z
            phase := if last then .factor else .pass1
            cursor := if last then 0 else z + 1
            inputs := if last then s.factorInputs else s.solver.inputs }
        banks := { s.banks with pendingBank := s.banks.pendingBank.putZone z (s.pass1Record z) }
        zone := { s.zone with
          storeOpen := s.zone.storeOpen || (last && decide (s.solver.kind = .picture)) } }
    else s

/-- FACTOR_STEP (R37, R54, R56): the factors of all four domains, and PASS2 begins. -/
def execFactorStep (s : State) : Host.Outcome State Fault Refusal :=
  .next <|
    if s.solver.phase = .factor then
      { s.reach (s.solver.startTime + passTime s.zone.n + 1) with
        solver :=
          { s.solver with
            phase := .pass2
            cursor := 0
            factors := .of fun d => domainFactors (s.solver.inputs.get d) (s.solver.sums.get d) } }
    else s

/-- The factor of a zone's tier in its domain (R38). -/
def Factors.tier (f : Factors) (focus : Bool) : Nat := if focus then f.kf else f.kn

/-- The record and the level pass 2 gives an active zone; carried and inactive zones keep theirs (R38, R39,
R40). The class of pass 1 stands in the record's held and inactive flags. -/
def State.pass2Zone (s : State) (z : Nat) : ZoneRecord × PerDomain DomainSums :=
  let r := s.banks.pendingBank.zone z
  match s.solver.ownerOf s.zone.cols z with
  | some e =>
    if r.held ∨ r.inactive then (r, s.solver.sums)
    else
      let a := scaleLevel r.level ((s.solver.factors.get e.domain).tier r.focus)
      let d := dither a (s.banks.active.zone z).residual
      ({ r with level := a, code := d.1, residual := d.2 },
        s.solver.sums.set e.domain ((s.solver.sums.get e.domain).add 0 0 0 a))
  | none => (r, s.solver.sums)

/-- The pending domain records at the end of pass 2 (R40, R60). -/
def Solver.domainRecords (v : Solver) : PerDomain DomainRecord :=
  .of fun d =>
    ⟨(v.factors.get d).kn, (v.factors.get d).kf, (v.sums.get d).level + (v.sums.get d).carried,
      (v.inputs.get d).budget⟩

/-- Pass 2 has handled the cursor's zone. -/
def State.pass2Step (s : State) : State :=
  { s.reach (s.solver.startTime + passTime s.zone.n + 1 + zoneTime s.zone.n s.solver.cursor) with
    solver := { s.solver with sums := (s.pass2Zone s.solver.cursor).2, cursor := s.solver.cursor + 1 }
    banks := { s.banks with
      pendingBank := s.banks.pendingBank.putZone s.solver.cursor (s.pass2Zone s.solver.cursor).1 } }

/-- The end of pass 2: the domain records are written and the solver is IDLE; a kept map is SOLVED and ships as
soon as the gate is OPEN, a voided one leaves the bank as it stands (R40, R41, R46, R109). -/
def State.solveEnd (s : State) : State :=
  let s' : State :=
    { s with
      solver := { s.solver with phase := .idle, cursor := 0, voided := false }
      banks :=
        { s.banks with
          pendingBank := { s.banks.pendingBank with domains := s.solver.domainRecords }
          pend := if s.solver.voided then s.banks.pend else .solved } }
  if s.solver.voided then s' else s'.beginRound

/-- PASS2_ZONE (R38 to R41). -/
def execPass2Zone (s : State) : Host.Outcome State Fault Refusal :=
  .next <|
    if s.solver.phase = .pass2 ∧ s.solver.cursor < s.zone.n then
      if s.solver.cursor + 1 = s.zone.n then s.pass2Step.solveEnd else s.pass2Step
    else s

end Sys2Proof.Machine
end

