-- ==== Sys2Proof/Machine/Dispatch.lean ====
section
/-! DEFINITION. The commands to their meanings, one arm for each constructor. -/

namespace Sys2Proof.Machine

open Sys2Proof

def exec (i : Instr) (s : State) : Host.Outcome State Fault Refusal :=
  match i with
  | .writeDemand position cut => Sys2Proof.Machine.execWriteDemand position s cut
  | .demandValue value => Sys2Proof.Machine.execDemandValue value s
  | .pictureWriteGain set position cut => Sys2Proof.Machine.execPictureWriteGain set position s cut
  | .pictureGainValue value => Sys2Proof.Machine.execPictureGainValue value s
  | .closeFrame record cut => Sys2Proof.Machine.execCloseFrame record s cut
  | .pictureReadMap bank start count cut => Sys2Proof.Machine.execPictureReadMap bank start count s cut
  | .pictureReadStatus cut => Sys2Proof.Machine.execPictureReadStatus s cut
  | .pictureReadGain set start count cut => Sys2Proof.Machine.execPictureReadGain set start count s cut
  | .pictureUnknownCommand command => Sys2Proof.Machine.execPictureUnknownCommand command s
  | .setGrid params => Sys2Proof.Machine.execSetGrid params s
  | .loadDriver params => Sys2Proof.Machine.execLoadDriver params s
  | .setBudget params => Sys2Proof.Machine.execSetBudget params s
  | .setSlew params => Sys2Proof.Machine.execSetSlew params s
  | .setDerate params => Sys2Proof.Machine.execSetDerate params s
  | .setScan params => Sys2Proof.Machine.execSetScan params s
  | .setLink params => Sys2Proof.Machine.execSetLink params s
  | .setLoss params => Sys2Proof.Machine.execSetLoss params s
  | .supervisorWriteGain params => Sys2Proof.Machine.execSupervisorWriteGain params s
  | .selectGainSet params => Sys2Proof.Machine.execSelectGainSet params s
  | .lockRange params => Sys2Proof.Machine.execLockRange params s
  | .zoneEnable params => Sys2Proof.Machine.execZoneEnable params s
  | .clearFault params => Sys2Proof.Machine.execClearFault params s
  | .start params => Sys2Proof.Machine.execStart params s
  | .stop params => Sys2Proof.Machine.execStop params s
  | .rearm params => Sys2Proof.Machine.execRearm params s
  | .softReset params => Sys2Proof.Machine.execSoftReset params s
  | .ackAlert params => Sys2Proof.Machine.execAckAlert params s
  | .probe params => Sys2Proof.Machine.execProbe params s
  | .supervisorReadStatus params => Sys2Proof.Machine.execSupervisorReadStatus params s
  | .popEvent params => Sys2Proof.Machine.execPopEvent params s
  | .readDriver params => Sys2Proof.Machine.execReadDriver params s
  | .supervisorReadMap params => Sys2Proof.Machine.execSupervisorReadMap params s
  | .readPower params => Sys2Proof.Machine.execReadPower params s
  | .supervisorReadGain params => Sys2Proof.Machine.execSupervisorReadGain params s
  | .supervisorUnknownCommand command => Sys2Proof.Machine.execSupervisorUnknownCommand command s
  | .fsyncFallingEdge time held high => Sys2Proof.Machine.execFsyncFallingEdge time held s high
  | .holdRise time held => Sys2Proof.Machine.execHoldRise time held s
  | .holdFall time held => Sys2Proof.Machine.execHoldFall time held s
  | .killFallingEdge held => Sys2Proof.Machine.execKillFallingEdge held s
  | .killRisingEdge held => Sys2Proof.Machine.execKillRisingEdge held s
  | .powerOnReset straps holdHigh killHigh fsyncHigh => Sys2Proof.Machine.execPowerOnReset straps holdHigh killHigh s fsyncHigh
  | .resetGapEnd => Sys2Proof.Machine.execResetGapEnd s
  | .lossTimerExpiry => Sys2Proof.Machine.execLossTimerExpiry s
  | .internalFrameStart => Sys2Proof.Machine.execInternalFrameStart s
  | .pollTimerExpiry => Sys2Proof.Machine.execPollTimerExpiry s
  | .latchDue => Sys2Proof.Machine.execLatchDue s
  | .pass1Zone => Sys2Proof.Machine.execPass1Zone s
  | .factorStep => Sys2Proof.Machine.execFactorStep s
  | .pass2Zone => Sys2Proof.Machine.execPass2Zone s
  | .transmitChoice => Sys2Proof.Machine.execTransmitChoice s
  | .attentionStart => Sys2Proof.Machine.execAttentionStart s
  | .arbitrationEnd sampled wide => Sys2Proof.Machine.execArbitrationEnd sampled s wide
  | .levelEnding status wide => Sys2Proof.Machine.execLevelEnding status s wide
  | .latchEnding errorReport wide => Sys2Proof.Machine.execLatchEnding errorReport s wide
  | .blankEnding errorReport wide => Sys2Proof.Machine.execBlankEnding errorReport s wide
  | .discoveryConfigEnding status wide => Sys2Proof.Machine.execDiscoveryConfigEnding status s wide
  | .probeConfigEnding status wide => Sys2Proof.Machine.execProbeConfigEnding status s wide
  | .readEnding status response wide => Sys2Proof.Machine.execReadEnding status response s wide
  | .pollEnding lowSlots wide => Sys2Proof.Machine.execPollEnding lowSlots s wide
  | .attentionWindow => Sys2Proof.Machine.execAttentionWindow s

end Sys2Proof.Machine
end

