-- ==== Sys2Proof/Machine/Step.lean ====
section
/-! DEFINITION. One step: the command at the front of the queue is taken; on an empty queue a microsecond passes
(log entry 1). -/

namespace Sys2Proof.Machine

open Sys2Proof

/-- A microsecond with nothing to take: the clock advances, and an idle line counts its idle periods (R120,
R121); every other time-driven effect has a command of its own. -/
def State.tick (s : State) : State :=
  { s with
    now := s.now + 1
    link := { s.link with
      idlePeriods :=
        if s.link.line = .idle ∧ s.link.resetGap = false then s.link.idlePeriods + s.link.lineRate.perMicrosecond
        else s.link.idlePeriods } }

/-- One step of the device. -/
def step (s : State) : Host.Outcome State Fault Refusal :=
  match s.pending with
  | [] => .next s.tick
  | c :: rest => exec c { s with pending := rest }

/-- The state with the command a table word spells at the front of its queue; a word that spells none changes
nothing. -/
def State.withFetchWord (s : State) (nbits w : Nat) : State :=
  match decodeTableWord nbits w with
  | some c => { s with pending := c :: s.pending }
  | none => s

end Sys2Proof.Machine
end

