-- ==== Sys2Proof/Laws/PerInstr.lean ====
section
/-! SUPPORT. Families of statements about a command as syntax, one lemma for each constructor. -/

namespace Sys2Proof.Laws.Encoding

open Sys2Proof

/-- The bytes of a well-formed port command decode to that command alone; the other rows, and a command in a frame that
a reset cuts, have no bytes. -/
def Statement (i : Instr) : Prop :=
  i.wellFormed = true →
    (∀ bytes, supervisorBytes i = some bytes → supervisorTransaction bytes = [i])
      ∧ ∀ bytes, pictureBytes i = some bytes → pictureFrame bytes = [i]

/-- The two bytes of a 16-bit field make the field again. -/
theorem bytes_of_field (w : BitVec 16) : w.extractLsb' 8 8 ++ w.extractLsb' 0 8 = w := by
  ext i hi
  simp only [BitVec.getElem_append, BitVec.getElem_extractLsb']
  split
  · simp [BitVec.getLsbD_eq_getElem hi]
  · rw [show 8 + (i - 8) = i by omega, BitVec.getLsbD_eq_getElem hi]

/-- A supervisor command with its bytes. -/
theorem of_supervisor {i : Instr} {bytes : List Byte} (h : supervisorBytes i = some bytes)
    (hp : pictureBytes i = none) (hc : supervisorTransaction bytes = [i]) : Statement i := by
  refine fun _ => ⟨fun b hb => ?_, fun b hb => ?_⟩
  · rw [h] at hb
    injection hb with hb
    rw [← hb, hc]
  · rw [hp] at hb
    cases hb

/-- A picture command with its bytes. -/
theorem of_picture {i : Instr} {bytes : List Byte} (h : pictureBytes i = some bytes)
    (hs : supervisorBytes i = none) (hc : pictureFrame bytes = [i]) : Statement i := by
  refine fun _ => ⟨fun b hb => ?_, fun b hb => ?_⟩
  · rw [hs] at hb
    cases hb
  · rw [h] at hb
    injection hb with hb
    rw [← hb, hc]

/-- A row without bytes of its own. -/
theorem of_none {i : Instr} (hs : supervisorBytes i = none) (hp : pictureBytes i = none) : Statement i := by
  refine fun _ => ⟨fun b hb => ?_, fun b hb => ?_⟩
  · rw [hs] at hb
    cases hb
  · rw [hp] at hb
    cases hb

/-! ### One lemma for each command -/

theorem writeDemand (position : BitVec 16) (cut : Bool) : Statement (.writeDemand position cut) := by
  cases cut
  · exact of_picture rfl rfl (by simp [pictureFrame, bytes_of_field, demandValues])
  · exact of_none rfl rfl
theorem demandValue (value : Demand) : Statement (.demandValue value) := of_none rfl rfl
theorem pictureWriteGain (set : Byte) (position : BitVec 16) (cut : Bool) :
    Statement (.pictureWriteGain set position cut) := by
  cases cut
  · exact of_picture rfl rfl (by simp [pictureFrame, bytes_of_field, gainWords])
  · exact of_none rfl rfl
theorem pictureGainValue (value : BitVec 16) : Statement (.pictureGainValue value) := of_none rfl rfl
theorem closeFrame (record : List Byte) (cut : Bool) : Statement (.closeFrame record cut) := by
  cases cut
  · exact of_picture rfl rfl rfl
  · exact of_none rfl rfl
theorem pictureReadMap (bank : Byte) (start count : BitVec 16) (cut : Bool) :
    Statement (.pictureReadMap bank start count cut) := by
  cases cut
  · exact of_picture rfl rfl (by simp [pictureFrame, bytes_of_field])
  · exact of_none rfl rfl
theorem pictureReadStatus (cut : Bool) : Statement (.pictureReadStatus cut) := by
  cases cut
  · exact of_picture rfl rfl rfl
  · exact of_none rfl rfl
theorem pictureReadGain (set : Byte) (start count : BitVec 16) (cut : Bool) :
    Statement (.pictureReadGain set start count cut) := by
  cases cut
  · exact of_picture rfl rfl (by simp [pictureFrame, bytes_of_field])
  · exact of_none rfl rfl
theorem pictureUnknownCommand (command : Byte) : Statement (.pictureUnknownCommand command) := by
  intro h
  refine of_picture rfl rfl ?_ h
  simp [Instr.wellFormed, pictureCodes] at h
  simp [pictureFrame, h]
theorem setGrid (params : List Byte) : Statement (.setGrid params) := of_supervisor rfl rfl rfl
theorem loadDriver (params : List Byte) : Statement (.loadDriver params) := of_supervisor rfl rfl rfl
theorem setBudget (params : List Byte) : Statement (.setBudget params) := of_supervisor rfl rfl rfl
theorem setSlew (params : List Byte) : Statement (.setSlew params) := of_supervisor rfl rfl rfl
theorem setDerate (params : List Byte) : Statement (.setDerate params) := of_supervisor rfl rfl rfl
theorem setScan (params : List Byte) : Statement (.setScan params) := of_supervisor rfl rfl rfl
theorem setLink (params : List Byte) : Statement (.setLink params) := of_supervisor rfl rfl rfl
theorem setLoss (params : List Byte) : Statement (.setLoss params) := of_supervisor rfl rfl rfl
theorem supervisorWriteGain (params : List Byte) : Statement (.supervisorWriteGain params) :=
  of_supervisor rfl rfl rfl
theorem selectGainSet (params : List Byte) : Statement (.selectGainSet params) :=
  of_supervisor rfl rfl rfl
theorem lockRange (params : List Byte) : Statement (.lockRange params) := of_supervisor rfl rfl rfl
theorem zoneEnable (params : List Byte) : Statement (.zoneEnable params) := of_supervisor rfl rfl rfl
theorem clearFault (params : List Byte) : Statement (.clearFault params) := of_supervisor rfl rfl rfl
theorem start (params : List Byte) : Statement (.start params) := of_supervisor rfl rfl rfl
theorem stop (params : List Byte) : Statement (.stop params) := of_supervisor rfl rfl rfl
theorem rearm (params : List Byte) : Statement (.rearm params) := of_supervisor rfl rfl rfl
theorem softReset (params : List Byte) : Statement (.softReset params) := of_supervisor rfl rfl rfl
theorem ackAlert (params : List Byte) : Statement (.ackAlert params) := of_supervisor rfl rfl rfl
theorem probe (params : List Byte) : Statement (.probe params) := of_supervisor rfl rfl rfl
theorem supervisorReadStatus (params : List Byte) : Statement (.supervisorReadStatus params) :=
  of_supervisor rfl rfl rfl
theorem popEvent (params : List Byte) : Statement (.popEvent params) := of_supervisor rfl rfl rfl
theorem readDriver (params : List Byte) : Statement (.readDriver params) := of_supervisor rfl rfl rfl
theorem supervisorReadMap (params : List Byte) : Statement (.supervisorReadMap params) :=
  of_supervisor rfl rfl rfl
theorem readPower (params : List Byte) : Statement (.readPower params) := of_supervisor rfl rfl rfl
theorem supervisorReadGain (params : List Byte) : Statement (.supervisorReadGain params) :=
  of_supervisor rfl rfl rfl
theorem supervisorUnknownCommand (command : Byte) : Statement (.supervisorUnknownCommand command) := by
  intro h
  refine of_supervisor rfl rfl ?_ h
  simp [Instr.wellFormed, supervisorCodes] at h
  simp [supervisorTransaction, supervisorCommand, h]
theorem fsyncFallingEdge (time held high : Nat) : Statement (.fsyncFallingEdge time held high) := of_none rfl rfl
theorem holdRise (time held : Nat) : Statement (.holdRise time held) := of_none rfl rfl
theorem holdFall (time held : Nat) : Statement (.holdFall time held) := of_none rfl rfl
theorem killFallingEdge (held : Nat) : Statement (.killFallingEdge held) := of_none rfl rfl
theorem killRisingEdge (held : Nat) : Statement (.killRisingEdge held) := of_none rfl rfl
theorem powerOnReset (straps : BitVec 2) (holdHigh killHigh fsyncHigh : Bool) :
    Statement (.powerOnReset straps holdHigh killHigh fsyncHigh) :=
  of_none rfl rfl
theorem resetGapEnd : Statement .resetGapEnd := of_none rfl rfl
theorem lossTimerExpiry : Statement .lossTimerExpiry := of_none rfl rfl
theorem internalFrameStart : Statement .internalFrameStart := of_none rfl rfl
theorem pollTimerExpiry : Statement .pollTimerExpiry := of_none rfl rfl
theorem latchDue : Statement .latchDue := of_none rfl rfl
theorem pass1Zone : Statement .pass1Zone := of_none rfl rfl
theorem factorStep : Statement .factorStep := of_none rfl rfl
theorem pass2Zone : Statement .pass2Zone := of_none rfl rfl
theorem transmitChoice : Statement .transmitChoice := of_none rfl rfl
theorem attentionStart : Statement .attentionStart := of_none rfl rfl
theorem arbitrationEnd (sampled : BitVec 8) (wide : Bool) :
    Statement (.arbitrationEnd sampled wide) := of_none rfl rfl
theorem levelEnding (status : LinkStatus) (wide : Bool) :
    Statement (.levelEnding status wide) := of_none rfl rfl
theorem latchEnding (errorReport : Bool) (wide : Bool) :
    Statement (.latchEnding errorReport wide) := of_none rfl rfl
theorem blankEnding (errorReport : Bool) (wide : Bool) :
    Statement (.blankEnding errorReport wide) := of_none rfl rfl
theorem discoveryConfigEnding (status : LinkStatus) (wide : Bool) :
    Statement (.discoveryConfigEnding status wide) := of_none rfl rfl
theorem probeConfigEnding (status : LinkStatus) (wide : Bool) :
    Statement (.probeConfigEnding status wide) := of_none rfl rfl
theorem readEnding (status : LinkStatus) (response : List Bool) (wide : Bool) :
    Statement (.readEnding status response wide) := of_none rfl rfl
theorem pollEnding (lowSlots : BitVec 63) (wide : Bool) :
    Statement (.pollEnding lowSlots wide) := of_none rfl rfl
theorem attentionWindow : Statement .attentionWindow := of_none rfl rfl

end Sys2Proof.Laws.Encoding
end

