-- ==== Sys2Proof/Machine/Formats.lean ====
section
/-! DEFINITION. What the outside sees: the bytes each port sends (R14, R164, R166, R168, R174, R185 to R187), the
periods of a message on the drive link (R121 to R123, R188), and the output pins (R189). -/

namespace Sys2Proof.Machine

open Sys2Proof

/-! ### Fields -/

/-- A byte of a number. -/
def byte (n : Nat) : Byte := BitVec.ofNat 8 n

/-- A two-byte field (R185). -/
def bytes16 (n : Nat) : List Byte := [byte (n / 256), byte n]

/-- A three-byte field (R185). -/
def bytes24 (n : Nat) : List Byte := [byte (n / 65536), byte (n / 256), byte n]

/-- A number from bits, the first most significant. -/
def ofBits (bits : List Bool) : Nat := bits.foldl (fun v b => 2 * v + b.toNat) 0

/-- The lowest `width` bits of a number, most significant first. -/
def toBits (width n : Nat) : List Bool := ((List.range width).map fun k => n.testBit k).reverse

/-- A tag byte: epoch, then count (R185). -/
def Tag.byte (t : Tag) : Byte := BitVec.ofBool t.epoch ++ t.count

/-- Pending state codes (R186). -/
def PendState.code : PendState → Nat
  | .empty => 0
  | .solving => 1
  | .solved => 2
  | .shipped => 3

/-- Operating state codes (R186). -/
def OpState.code : OpState → Nat
  | .standby => 0
  | .discovery => 1
  | .run => 2
  | .safe => 3

/-- Map status codes (R186). -/
def MapStatus.code : MapStatus → Nat
  | .valid => 1
  | .stale => 2
  | .blanked => 3

/-- Last result codes (R187). -/
def LastResult.code : LastResult → Nat
  | .ok => 0
  | .wrongState => 1
  | .range => 2
  | .locked => 3
  | .unknown => 4

/-- Safety latch codes (R187). -/
def SafetyLatch.code : SafetyLatch → Nat
  | .clear => 0
  | .held => 1
  | .released => 2

/-- Driver state codes of present entries; ABSENT is 0 (R187). -/
def DriverState.code : DriverState → Nat
  | .unprobed => 1
  | .reachable => 2
  | .failing => 3
  | .unreachable => 4

/-- Thermal state codes (R187). -/
def ThermalState.code : ThermalState → Nat
  | .normal => 0
  | .alert => 1
  | .acknowledged => 2

/-- Last cause codes (R187). -/
def Cause.code : Cause → Nat
  | .none => 0
  | .thermal => 1
  | .fault => 2

/-- Event kind codes; NONE is 0 (R187). -/
def EventKind.code : EventKind → Nat
  | .driverUnreachable => 1
  | .driverRecovered => 2
  | .thermalAlert => 3
  | .thermalNormal => 4
  | .zoneOpen => 5
  | .zoneShort => 6
  | .signalLoss => 7
  | .signalRestored => 8
  | .kill => 9
  | .discoveryEmpty => 10

/-- The seven flags from LATE-WRITE to GAIN-LOCKED (R186, R187). -/
def PortFlags.bits (p : PortFlags) : List Bool :=
  [p.lateWrite, p.closeRefused, p.superseded, p.lateCommit, p.runtFs, p.flushed, p.gainLocked]

/-- A temperature byte (R185). -/
def temperatureByte (t : Int) : Byte := byte (t + 40).toNat

/-! ### Port records -/

/-- A map entry's two bytes (R186). -/
def MapEntry.bytes (e : MapEntry) : List Byte :=
  bytes16 (e.level * 16 + ofBits [e.held, e.fault, e.focus, e.inactive])

/-- A READ MAP answer: tag, status, entries (R186). -/
def MapAnswer.bytes (a : MapAnswer) : List Byte :=
  a.tag.byte :: byte (match a.status with
    | some x => x.code
    | none => 0) :: a.entries.flatMap MapEntry.bytes

/-- The picture port's READ STATUS record (R186). -/
def PictureStatus.bytes (r : PictureStatus) : List Byte :=
  [byte ((!r.storeOpen).toNat * 128 + r.pend.code * 32 + r.op.code * 8), r.tag.byte] ++ bytes24 r.tf
    ++ [byte (ofBits r.flags.bits)]

/-- The supervisor's READ STATUS record (R187). -/
def SupervisorStatus.bytes (r : SupervisorStatus) : List Byte :=
  [byte r.op.code, byte r.lastResult.code, 0, byte (ofBits (r.flags.bits ++ [r.overflow])), r.tag.byte]
    ++ bytes24 r.tf
    ++ [byte r.reachable, byte (match r.lineMode with
        | .quiet => 0
        | .polled => 1), byte r.latch.code]

/-- A POP EVENT record; absent fields read 0 (R187, R156). -/
def eventBytes : Option EventRecord → List Byte
  | some r =>
    [byte r.kind.code, byte (ofBits [r.driver.isSome, r.zone.isSome, r.value.isSome]), byte (r.driver.getD 0)]
      ++ bytes16 (r.zone.getD 0)
      ++ [match r.value with
          | some t => temperatureByte t
          | none => 0, byte r.count, r.tag.byte]
  | none => List.replicate 8 0

/-- A READ DRIVER record; for an absent entry every byte is 0 (R187, R119, R159). -/
def driverBytes (e : Option DriverEntry) (t : ThermalRecord) : List Byte :=
  match e with
  | some e =>
    [byte e.state.code, byte e.addr, byte e.tile.col, byte e.tile.row, byte e.tile.width, byte e.tile.height,
      byte e.domain.val, byte e.pwm, byte e.current, byte e.misses, byte e.attempts, temperatureByte t.temp,
      byte t.run] ++ bytes16 t.cap ++ [byte t.state.code, byte t.cause.code]
  | none => List.replicate 17 0

/-- A domain record of READ POWER (R187). -/
def DomainRecord.bytes (r : DomainRecord) : List Byte :=
  bytes24 r.levelSum ++ bytes16 r.kn ++ bytes16 r.kf ++ bytes24 r.budget

/-- A gain's two bytes, upper five bits 0 (R186). -/
def gainBytes (g : Gain) : List Byte := bytes16 g.toNat

/-- The bytes of the record that the read pointer holds (R187). -/
def ReadRecord.bytes : ReadRecord → List Byte
  | .status r => r.bytes
  | .event r => eventBytes r
  | .driver e t => driverBytes e t
  | .map a => a.bytes
  | .power p => p.d0.bytes ++ p.d1.bytes ++ p.d2.bytes ++ p.d3.bytes
  | .gains g => g.flatMap gainBytes

/-- Byte `i` of a read transaction: 0 after the record and while the pointer is none (R174). -/
def State.supervisorByte (s : State) (i : Nat) : Byte :=
  match s.sup.readPointer with
  | some r => r.bytes.getD i 0
  | none => 0

/-- A gain as the picture port shows it at this moment: 0 inside a locked range (R14, R164). -/
def State.pictureGain (s : State) (g : GainSet) (z : Nat) : Gain :=
  if s.zone.locked z then 0 else s.zone.gainAt g z

/-- Byte `i` of the answer of the frame in progress (R160, R166, R168). A gain is read once, when its first byte is
sent, so every bit of its two bytes comes from the gain and the locks of `first`, the state at the clock edge at which
its first byte begins (R164). -/
def State.pictureByte (s first : State) (i : Nat) : Byte :=
  match s.picture.frame with
  | .readMap a => a.bytes.getD i 0
  | .readStatus r => r.bytes.getD i 0
  | .readGain g start count =>
    if i / 2 < count then (gainBytes (first.pictureGain g ((start + i / 2) % first.zone.n))).getD (i % 2) 0 else 0
  | _ => 0

/-- How many bytes of a frame with this command byte come before its answer; none when nothing is answered (R160,
R186). -/
def answerStart (command : Byte) : Option Nat :=
  if command = 0x4F then some 1 else if command = 0x41 ∨ command = 0x62 then some 6 else none

/-- The byte sent after these whole bytes of the frame have been received: 0 unless it carries an answer (R160). -/
def State.dataOut (s first : State) (received : List Byte) : Byte :=
  match received.head?.bind answerStart with
  | some n => if n ≤ received.length then s.pictureByte first (received.length - n) else 0
  | none => 0

/-! ### Drive link messages -/

/-- The seven kinds in which the JD2560 frames the line: its six messages and the arbitration (R122). -/
inductive LinkKind | level | latch | blank | config | read | poll | arbitration
  deriving DecidableEq, Repr

/-- The kind codes (R122); code 6 is not sent. -/
def LinkKind.code : LinkKind → Nat
  | .level => 0
  | .latch => 1
  | .blank => 2
  | .config => 3
  | .read => 4
  | .poll => 5
  | .arbitration => 7

/-- The kind of a message (R122). -/
def Message.linkKind : Message → LinkKind
  | .level _ _ _ _ => .level
  | .latch _ _ => .latch
  | .blank => .blank
  | .config _ _ _ _ _ _ _ => .config
  | .read _ _ _ => .read
  | .poll => .poll

/-- The kind code of a message (R122). -/
def Message.kind (m : Message) : Nat := m.linkKind.code

/-- The periods the checksum covers: kind, address and payload (R121, R122, R188); a POLL has its kind alone. -/
def Message.body (m : Message) : List Bool :=
  toBits 3 m.kind ++
    match m with
    | .level _ addr tag codes =>
      toBits 6 addr ++ toBits 8 tag.byte.toNat ++ toBits 7 codes.length ++ codes.flatMap (toBits 10)
    | .latch tag band => toBits 6 63 ++ toBits 8 tag.byte.toNat ++ toBits 4 band
    | .blank => toBits 6 63
    | .config _ addr pwm current width height _ =>
      toBits 6 addr ++ toBits 4 pwm ++ toBits 8 current ++ toBits 4 (width - 1) ++ toBits 4 (height - 1)
    | .read _ addr _ => toBits 6 addr
    | .poll => []

/-- The periods the JD2560 sends between the start pulse and the turnaround (R121, R123). -/
def Message.sent (m : Message) : List Bool :=
  match m with
  | .poll => m.body
  | _ => m.body ++ toBits 8 (checksumOf m.body)

/-- The stop pulse of a mode setting (R133). -/
def LinkMode.stopPulse : LinkMode → Nat
  | .quiet => 2
  | .polled => 3

/-- The periods in which the JD2560 samples the line after what it sends: the slots of a POLL, or turnaround and status
with an accepted READ's response and its fault entries (R121, R128, R136, R188). -/
def Message.sampled (m : Message) (response : Option Nat) : Nat :=
  match m with
  | .poll => 63
  | _ =>
    3 + match response with
      | some faults => 27 + 7 * faults
      | none => 0

/-- A start pulse (R121): in each period `false` is low and `true` released. -/
def startPulse : List Bool := List.replicate 4 false

/-- The stop pulse of a mode (R121, R133). -/
def LinkMode.pulse (mode : LinkMode) : List Bool := List.replicate mode.stopPulse false

/-- What the JD2560 puts on DLD in each period of a message, in sequence (R121): `false` is low, `true` released. -/
def Message.driven (m : Message) (stop : LinkMode) (response : Option Nat) : List Bool :=
  startPulse ++ m.sent ++ List.replicate (m.sampled response) true ++ stop.pulse

/-- The periods of a message, the two idle periods that must follow included (R122). -/
def Message.periods (m : Message) (stop : LinkMode) (response : Option Nat) : Nat :=
  (m.driven stop response).length + 2

/-- What the JD2560 puts on DLD in each period of an attention arbitration, in sequence (R138): the first period of the
start pulse is the driver's own, and the JD2560 drives the next three, the kind and the stop pulse. -/
def arbitrationDriven (stop : LinkMode) : List Bool :=
  true :: List.replicate 3 false ++ toBits 3 LinkKind.arbitration.code ++ List.replicate 8 true ++ stop.pulse

/-- The level of the line in each period of an attention arbitration whose eight arbitration periods read as sampled,
in sequence (R138). -/
def arbitrationLine (sampled : BitVec 8) (stop : LinkMode) : List Bool :=
  startPulse ++ toBits 3 LinkKind.arbitration.code ++ toBits 8 sampled.toNat ++ stop.pulse

/-- The periods of an attention arbitration, two idle periods included (R122, R138). -/
def arbitrationPeriods (stop : LinkMode) : Nat := (arbitrationDriven stop).length + 2

/-! ### Pins -/

/-- What an output pin does. -/
inductive PinLevel | low | high | released
  deriving DecidableEq, Repr

/-- A pin that is driven both ways. -/
def PinLevel.driven (high : Bool) : PinLevel := if high then .high else .low

/-- An open-drain pin: pulled low or released. -/
def PinLevel.openDrain (high : Bool) : PinLevel := if high then .released else .low

/-- The output pins (section 11.4). -/
structure Pins where
  sdo : PinLevel
  scl : PinLevel
  sda : PinLevel
  salert : PinLevel
  dld : PinLevel
  dlc : PinLevel
  prdy : PinLevel
  mapRdy : PinLevel
  deriving DecidableEq, Repr

/-- What the wires of the part carry at a moment. -/
structure Moment where
  /-- RSTN is high. -/
  rstn : Bool
  /-- Chip select is high. -/
  csn : Bool
  /-- The clock of the picture port is high. -/
  sck : Bool
  /-- The bits of the chip-select frame so far, each sampled at a rising clock edge. -/
  frame : List Bool
  /-- SCL is high. -/
  scl : Bool
  /-- The bits of the two-wire transaction so far, each sampled at a rise of SCL; none while no transaction is open. -/
  bus : List Bool
  /-- The phase of the drive link's clock. -/
  dlcHigh : Bool
  /-- The periods of the message or arbitration on the line so far. -/
  period : Nat
  /-- The mode of its stop pulse. -/
  stop : LinkMode
  /-- The fault entries of an accepted READ's response. -/
  response : Option Nat
  deriving DecidableEq, Repr

/-- The bits that had been sampled at the latest falling clock edge: while the clock is high, all but the one that its
rise has just sampled (R160, R172). -/
def bitsAtFall (clockHigh : Bool) (bits : List Bool) : List Bool := if clockHigh then bits.dropLast else bits

/-- Data out: released while chip select is high; within a frame it changes at each falling clock edge, to the next bit
of the byte sent, and holds that bit over the rising edge that follows (R160). The state is that at the latest falling
edge. -/
def State.sdo (s first : State) (m : Moment) : PinLevel :=
  let bits := bitsAtFall m.sck m.frame
  if m.csn then .released else .driven ((s.dataOut first (wholeBytes bits)).getMsbD (bits.length % 8))

/-- SDA as the port holds it from the fall of SCL that follows these bits of a transaction to the next fall (R172): low
in the ninth clock period of its address byte, in either direction, and of every byte of a write transaction; in a read
transaction the bits of the bytes that the controller asks for; else released. -/
def State.sda (s : State) (bits : List Bool) : PinLevel :=
  match wholeBytes bits with
  | [] => .released
  | a :: _ =>
    if s.acknowledges a then
      if bits.length % 9 = 8 then .openDrain (a.getLsbD 0 && decide (8 < bits.length))
      else if bits.length / 9 ≤ busBytesSent s.supervisorAddress bits then
        .openDrain ((s.supervisorByte (bits.length / 9 - 1)).getMsbD (bits.length % 9))
      else .released
    else .released

/-- DLD as the JD2560 holds it in the next period (R120, R121, R138). -/
def State.dld (s : State) (m : Moment) : PinLevel :=
  .openDrain <|
    match s.link.line with
    | .idle => true
    | .message x => (x.msg.driven m.stop m.response).getD m.period true
    | .arbitration => (arbitrationDriven m.stop).getD m.period true

/-- The output pins while RSTN is low (R189). -/
def pinsInReset : Pins :=
  { sdo := .released, scl := .released, sda := .released, salert := .released, dld := .released, dlc := .low,
    prdy := .low, mapRdy := .low }

/-- The output pins of a state at a moment (R120, R158, R160, R170 to R172, R189): `fall` is the state at the latest
falling edge of the picture port's clock, and `first` is as in `State.pictureByte`. SDA changes only while SCL is low,
and the supervisor port only listens to SCL. -/
def State.pins (s fall first : State) (m : Moment) : Pins :=
  if m.rstn then
    { sdo := fall.sdo first m, scl := .released, sda := s.sda (bitsAtFall m.scl m.bus)
      salert := .openDrain (!s.salertLow), dld := s.dld m, dlc := .driven m.dlcHigh, prdy := .driven s.prdy, mapRdy := .driven s.mapRdy }
  else pinsInReset

end Sys2Proof.Machine
end

