-- ==== Sys2Proof/Machine/Reliance.lean ====
section
/-! DEFINITION. What the JD2560 relies on in a driver device (R93, R124). Driver devices stand outside the device
(00_scope section 4): no step of the machine runs this, and it is here so that claims can name it. -/

namespace Sys2Proof.Machine

open Sys2Proof

/-- A driver device's tile, the codes it lights in tile raster order, and its shadow with the shadow tag (R93). -/
structure DriverDevice where
  tile : Tile
  lit : List Nat
  shadow : Option (Tag × List Nat)
  deriving DecidableEq, Repr

/-- An accepted LEVEL replaces the whole shadow and its tag, and lights nothing (R93). -/
def DriverDevice.acceptLevel (d : DriverDevice) (tag : Tag) (codes : List Nat) : DriverDevice :=
  { d with shadow := some (tag, codes) }

/-- A LATCH of the shadow's tag lights the shadow codes of the rows in its band (R88, R93). -/
def DriverDevice.latch (d : DriverDevice) (rows bands : Nat) (tag : Tag) (band : Nat) : DriverDevice :=
  match d.shadow with
  | some (t, codes) =>
    if t = tag then
      { d with
        lit := (List.range (d.tile.width * d.tile.height)).map fun k =>
          if bandOfRow (d.tile.row + k / d.tile.width) bands rows = band then codes.getD k 0 else d.lit.getD k 0 }
    else d
  | none => d

/-- A BLANK lights code 0 everywhere and empties the shadow (R124). -/
def DriverDevice.blank (d : DriverDevice) : DriverDevice :=
  { d with lit := List.replicate (d.tile.width * d.tile.height) 0, shadow := none }

/-- The periods of a valid READ response that carries this report (R128, R188): data status, temperature, cause,
fault count, fault entries, checksum. -/
def ReadReport.response (p : ReadReport) : List Bool :=
  let body := toBits 2 0 ++ toBits 8 (p.temp + 40).toNat ++ toBits 2 p.cause.code ++ toBits 7 p.faults.length
    ++ p.faults.flatMap fun f => toBits 6 f.zone ++ [f.short]
  body ++ toBits 8 (checksumOf body)

end Sys2Proof.Machine
end

