-- ==== Sys2Proof/Safety.lean ====
section
/-! DEFINITION. What holds of every safe state of the device: the invariants that the manual's rules promise,
each a property of any state. -/

namespace Sys2Proof.Machine

open Sys2Proof

/-! ### Words of the statements -/

/-- The zone at a position of a write order on the grid (R4), none past its end. -/
def ZoneStore.seqAt (z : ZoneStore) (o : WriteOrder) (k : Nat) : Option Nat := (zoneSequence o z.cols z.rows)[k]?

/-- Zone `i` stands before zone `j` in a write order on a grid with `cols` columns, as R4 words it. -/
def WriteOrder.before (o : WriteOrder) (cols i j : Nat) : Prop :=
  let r := i / cols
  let c := i % cols
  let r' := j / cols
  let c' := j % cols
  match o with
  | .raster => r < r' ∨ r = r' ∧ c < c'
  | .serpentine => r < r' ∨ r = r' ∧ if r % 2 = 0 then c < c' else c' < c
  | .quad =>
    r / 2 < r' / 2 ∨ r / 2 = r' / 2 ∧
      (c / 2 < c' / 2 ∨ c / 2 = c' / 2 ∧ (r < r' ∨ r = r' ∧ c < c'))

/-! ### Ranges -/

/-- The ranges of a zone record (R40). -/
def ZoneRecord.inRange (r : ZoneRecord) : Prop :=
  r.level ≤ 4095 ∧ r.slewed ≤ 4095 ∧ r.residual ≤ 3 ∧ r.code ≤ 1023

/-- The ranges of a bank (R40). -/
def Bank.inRange (b : Bank) : Prop :=
  (∀ z, (b.zone z).inRange) ∧ ∀ d, (b.domains.get d).kn ≤ 4096 ∧ (b.domains.get d).kf ≤ 4096

/-- Levels, codes, residuals and factors of both banks and of the solver lie in their ranges (R37, R40, R80). -/
def RangeInv (s : State) : Prop :=
  s.banks.active.inRange ∧ s.banks.pendingBank.inRange
    ∧ (∀ d, (s.solver.factors.get d).kn ≤ 4096 ∧ (s.solver.factors.get d).kf ≤ 4096)
    ∧ s.solver.params.lossLevel ≤ 4095 ∧ s.sup.loss.level ≤ 4095

/-- The settings lie in their ranges (R49, R80, R87, R134, R147, R177). -/
def SettingsInv (s : State) : Prop :=
  (∀ d, (s.sup.budgets.get d).budget ≤ Config.maxBudget ∧ 1 ≤ (s.sup.budgets.get d).recovery
      ∧ (s.sup.budgets.get d).recovery ≤ 4096)
    ∧ s.sup.rise ≤ 4095 ∧ s.sup.fall ≤ 4095
    ∧ (-40 ≤ s.sup.derate.ts ∧ s.sup.derate.ts < s.sup.derate.te ∧ s.sup.derate.te ≤ 150
      ∧ -40 ≤ s.sup.derate.ta ∧ s.sup.derate.ta ≤ 150 ∧ s.sup.derate.capmin ≤ 4095)
    ∧ (1 ≤ s.sup.scan.bands ∧ s.sup.scan.bands ≤ 16 ∧ s.sup.scan.base ≤ 8000 ∧ s.sup.scan.step ≤ 2000)
    ∧ (1 ≤ s.sup.loss.steps ∧ s.sup.loss.steps ≤ 16 ∧ s.sup.loss.level ≤ 4095)
    ∧ (1 ≤ s.link.pollInterval ∧ s.link.pollInterval ≤ 15)

/-- The grid is at most 64 zones wide and 40 high, and it has columns exactly when it has rows (R1, R2). -/
def GridInv (s : State) : Prop :=
  s.zone.cols ≤ 64 ∧ s.zone.rows ≤ 40 ∧ (s.zone.cols = 0 ↔ s.zone.rows = 0)

/-- The thermal records lie in their ranges (R143). -/
def ThermalInv (s : State) : Prop :=
  ∀ i, -40 ≤ (s.thermal.get .reset i).temp ∧ (s.thermal.get .reset i).temp ≤ 150
    ∧ (s.thermal.get .reset i).run ≤ Config.blindRun ∧ (s.thermal.get .reset i).cap ≤ 4095

/-- The domain records of ACTIVE lie in their ranges: a level sum of at most 2,560 zones at level 4095, and a budget
that SET BUDGET can set; so does every budget and recovery step on its way there (R49, R53, R60). -/
def DomainInv (s : State) : Prop :=
  ∀ d,
    (s.banks.active.domains.get d).levelSum ≤ Config.maxZones * 4095
      ∧ (s.banks.active.domains.get d).budget ≤ Config.maxBudget
      ∧ (s.banks.pendingBank.domains.get d).budget ≤ Config.maxBudget
      ∧ (s.solver.inputs.get d).budget ≤ Config.maxBudget
      ∧ 1 ≤ (s.solver.inputs.get d).recovery ∧ (s.solver.inputs.get d).recovery ≤ 4096

/-! ### The solve and the pending bank -/

/-- The demand store is CLOSED exactly while pass 1 of a picture solve runs (R7, R20). -/
def DemandStoreInv (s : State) : Prop :=
  s.zone.storeOpen = false ↔ s.solver.phase = .pass1 ∧ s.solver.kind = .picture

/-- The pending bank is SOLVING exactly while a kept solve is in flight, and EMPTY while a voided one is; only a
solve in flight is voided (R42, R46, R73). -/
def PendingInv (s : State) : Prop :=
  (s.banks.pend = .solving ↔ s.solver.phase ≠ .idle ∧ s.solver.voided = false)
    ∧ (s.solver.voided = true → s.solver.phase ≠ .idle ∧ s.banks.pend = .empty)

/-- A pending map carries the count after ACTIVE's (R26). -/
def TagInv (s : State) : Prop :=
  s.banks.pend ≠ .empty → s.banks.pendingBank.tag.count = s.banks.active.tag.count + 1

/-- The gate is CLOSED exactly while a schedule is RUNNING, and a SHIPPED map finds it OPEN (R97). -/
def GateInv (s : State) : Prop :=
  (s.timing.gateOpen = false ↔ s.timing.schedule.isSome = true)
    ∧ (s.banks.pend = .shipped → s.timing.gateOpen = true)

/-- The sum over the zones from `first` up to `last` of a domain of what a pending record counts for. -/
def State.domainSum (s : State) (d : Domain) (value : ZoneRecord → Nat) (first last : Nat) : Nat :=
  ((List.range' first (last - first)).map fun z =>
    match s.solver.ownerOf s.zone.cols z with
    | some e => if e.domain = d then value (s.banks.pendingBank.zone z) else 0
    | none => 0).sum

/-- The level of a carried zone (R30). -/
def ZoneRecord.carriedLevel (r : ZoneRecord) : Nat := if r.held then r.level else 0

/-- The level of an active zone (R29). -/
def ZoneRecord.activeLevel (r : ZoneRecord) : Nat := if !r.held && !r.inactive then r.level else 0

/-- The level of an active focus zone (R52). -/
def ZoneRecord.focusLevel (r : ZoneRecord) : Nat := if r.focus then r.activeLevel else 0

/-- The level of an active zone outside every focus window (R52). -/
def ZoneRecord.nonFocusLevel (r : ZoneRecord) : Nat := if r.focus then 0 else r.activeLevel

/-- The level that pass 2 will give an active zone (R38). -/
def ZoneRecord.scaledLevel (f : Factors) (r : ZoneRecord) : Nat := scaleLevel r.activeLevel (f.tier r.focus)

/-- The sums of a solve are those of the records it has written, what pass 2 has still to write fits in the budget,
and a waiting map is within it or shows its carried levels alone (R30, R36, R38, R40, R57, R60). -/
def BudgetInv (s : State) : Prop :=
  ∀ d,
    (s.solver.phase = .pass1 →
      (s.solver.sums.get d).carried = s.domainSum d ZoneRecord.carriedLevel 0 s.solver.cursor
      ∧ (s.solver.sums.get d).focus = s.domainSum d ZoneRecord.focusLevel 0 s.solver.cursor
      ∧ (s.solver.sums.get d).nonFocus = s.domainSum d ZoneRecord.nonFocusLevel 0 s.solver.cursor
      ∧ (s.solver.sums.get d).level = 0)
    ∧ (s.solver.phase = .factor →
      (s.solver.sums.get d).carried = s.domainSum d ZoneRecord.carriedLevel 0 s.zone.n
      ∧ (s.solver.sums.get d).focus = s.domainSum d ZoneRecord.focusLevel 0 s.zone.n
      ∧ (s.solver.sums.get d).nonFocus = s.domainSum d ZoneRecord.nonFocusLevel 0 s.zone.n
      ∧ (s.solver.sums.get d).level = 0)
    ∧ (s.solver.phase = .pass2 →
      (s.solver.sums.get d).carried = s.domainSum d ZoneRecord.carriedLevel 0 s.zone.n
      ∧ (s.solver.sums.get d).level = s.domainSum d ZoneRecord.activeLevel 0 s.solver.cursor
      ∧ (s.solver.sums.get d).level
          + s.domainSum d (ZoneRecord.scaledLevel (s.solver.factors.get d)) s.solver.cursor s.zone.n
        ≤ (s.solver.inputs.get d).budget - (s.solver.sums.get d).carried)
    ∧ (s.banks.pend = .solved ∨ s.banks.pend = .shipped →
      (s.banks.pendingBank.domains.get d).levelSum =
        s.domainSum d ZoneRecord.carriedLevel 0 s.zone.n + s.domainSum d ZoneRecord.activeLevel 0 s.zone.n
      ∧ s.domainSum d ZoneRecord.activeLevel 0 s.zone.n
        ≤ (s.banks.pendingBank.domains.get d).budget - s.domainSum d ZoneRecord.carriedLevel 0 s.zone.n)

/-! ### Operating state, drivers, link and events -/

/-- The latch is CLEAR exactly outside SAFE, and discovery work is under way in DISCOVERY alone (R178, R181,
R182, R107, R108). -/
def OperatingInv (s : State) : Prop :=
  (s.sup.op = .safe ↔ s.sup.latch ≠ .clear) ∧ (s.drivers.discovery.isSome = true → s.sup.op = .discovery)

/-- The frame clock: outside RUN the loss timer is stopped, free-run off and the edge reference absent; in RUN with
HOLD high no timer runs; in RUN with HOLD low either the loss timer or the free-run generator runs (R65, R68, R69,
R81, R82, R84, R85, R86). -/
def TimingInv (s : State) : Prop :=
  (s.sup.op ≠ .run → s.timing.lossTimer = none ∧ s.timing.freeRun = .off ∧ s.timing.edgeRef = none)
    ∧ (s.sup.op = .run → s.timing.hold = true →
        s.timing.lossTimer = none ∧ s.timing.edgeRef = none
          ∧ (s.timing.freeRun = .off ∨ s.timing.freeRun = .paused))
    ∧ (s.sup.op = .run → s.timing.hold = false →
        (s.timing.freeRun = .off ∧ s.timing.lossTimer.isSome = true)
          ∨ ((∃ next, s.timing.freeRun = .running next) ∧ s.timing.lossTimer = none ∧ s.timing.edgeRef = none))

/-- The poll timer runs exactly in RUN with the mode setting polled (R135). -/
def PollInv (s : State) : Prop :=
  s.link.pollTimer.isSome = true ↔ s.sup.op = .run ∧ s.link.mode = .polled

/-- Outside RUN the pending bank is EMPTY, the schedule IDLE, and no shipping round and no probe is in progress
(R86, R99, R113, R117). -/
def OutsideRunInv (s : State) : Prop :=
  s.sup.op ≠ .run →
    s.banks.pend = .empty ∧ s.timing.schedule = none ∧ s.drivers.round = none ∧ s.drivers.probes = []

/-- Present entries have an index 0..47, fields in the ranges of the table, a miss count 0..4, an attempt count 0..3 and
a tile inside the grid; no two of them share a zone or an address (R101, R102). -/
def DriverInv (s : State) : Prop :=
  (∀ i e, s.drivers.entryAt i = some e →
      i < Config.drivers ∧ e.inRange = true ∧ e.misses ≤ Config.missLimit ∧ e.attempts ≤ Config.attempts
        ∧ e.tile.col + e.tile.width ≤ s.zone.cols ∧ e.tile.row + e.tile.height ≤ s.zone.rows)
    ∧ ∀ i j e f, s.drivers.entryAt i = some e → s.drivers.entryAt j = some f → i ≠ j →
        e.addr ≠ f.addr ∧ ∀ c r, ¬(e.tile.contains c r = true ∧ f.tile.contains c r = true)

/-- The LEVEL messages that still concern a round: those that wait, and the one on the line whose claim stands. -/
def Link.liveLevels (l : Link) : List Message :=
  (match l.line with
    | .message m => if m.claim && m.msg.isLevel then [m.msg] else []
    | _ => [])
  ++ l.queue.filter Message.isLevel

/-- A round has at most one LEVEL queued or on the link: that of the entry at the head of the list of a SOLVED map,
with that map's tag; none while the gate is CLOSED; and no LEVEL awaits a resend (R97, R109, R110, R113, R127). -/
def ShippingInv (s : State) : Prop :=
  s.link.liveLevels.length ≤ 1
    ∧ (∀ i addr tag codes, .level i addr tag codes ∈ s.link.liveLevels →
        s.banks.pend = .solved ∧ tag = s.banks.pendingBank.tag ∧ ∃ rest, s.drivers.round = some (i :: rest))
    ∧ (s.timing.gateOpen = false → s.drivers.round = none)
    ∧ ∀ m, s.link.resend = some m → m.msg.isLevel = false

/-- The transmit queue is held in the order of its classes, with at most one BLANK and one POLL (R130, R131, R135). -/
def QueueInv (s : State) : Prop :=
  (s.link.queue.Pairwise fun a b => a.cls ≤ b.cls)
    ∧ s.link.queue.count .blank ≤ 1 ∧ s.link.queue.count .poll ≤ 1

/-- Only a message or an arbitration on the line can have seen the mode setting change since it began (R133). -/
def StopPulseInv (s : State) : Prop := s.link.line = .idle → s.link.modeMoved = false

/-- At most 32 records, no two of one kind, driver and zone, each counted 1..255 (R153, R154). -/
def EventInv (s : State) : Prop :=
  s.events.records.length ≤ Config.eventCapacity
    ∧ (s.events.records.Pairwise fun a b => ¬(a.kind = b.kind ∧ a.driver = b.driver ∧ a.zone = b.zone))
    ∧ ∀ r ∈ s.events.records, 1 ≤ r.count ∧ r.count ≤ 255

/-! ### Tables -/

/-- Every table of the state is in its canonical form (log entry 15). -/
def TablesInv (s : State) : Prop :=
  s.zone.demand.wf 0 ∧ s.zone.gainA.wf 1024 ∧ s.zone.gainB.wf 1024 ∧ s.zone.enable.wf true
    ∧ s.zone.fault.wf false ∧ s.zone.locks.wf none ∧ s.banks.active.zones.wf .reset
    ∧ s.banks.pendingBank.zones.wf .reset ∧ s.drivers.entries.wf none ∧ s.thermal.wf .reset

end Sys2Proof.Machine
end

