-- ==== Sys2Proof/Certificates/Slice0/Obligations.lean ====
section
/-! DEFINITION. The statements for the provers, in the order of spec/'s chapters. -/

open Sys2Proof Sys2Proof.Machine

/-! ### The queue -/

/-- A step is the front command on the state with the queue's rest (the row's cut; spec/95_what_each_step_holds.md).
On an empty queue a microsecond passes, and an idle line past its reset gap counts the periods of R120 (the
model's choice, log entry 1). -/
def Obligations.StepTakesTheFrontCommand : Prop :=
  (∀ (c : Instr) (rest : List Instr) (s : State),
    step { s with pending := c :: rest } = exec c { s with pending := rest })
  ∧ (∀ s : State, s.pending = [] →
    step s = .next
      { s with
        now := s.now + 1
        link := { s.link with
          idlePeriods :=
            if s.link.line = .idle ∧ s.link.resetGap = false then
              s.link.idlePeriods + (if s.link.lineRate = .mhz20 then 20 else 10)
            else s.link.idlePeriods } })

/-- No command stops the device, none touches the waiting commands, and time never runs back (R173; the clock is
log entries 1 and 2). -/
def Obligations.EveryCommandAnswersANextState : Prop :=
  ∀ (c : Instr) (s : State), ∃ t, exec c s = .next t ∧ t.pending = s.pending ∧ s.now ≤ t.now

/-! ### Chapter 1: Zone Store -/

/-- R4: each order is an arrangement of the zones of the grid, every zone once, in the order its words give. -/
def Obligations.WriteOrdersArrangeEveryZoneOnce : Prop :=
  ∀ (o : WriteOrder) (cols rows : Nat),
    (zoneSequence o cols rows).Perm (List.range (cols * rows))
      ∧ (zoneSequence o cols rows).Pairwise (o.before cols)

/-- R5, R8, R169: WRITE DEMAND's header on a CLOSED store, refused by R5, and taken.
R5, R12: the header of a picture WRITE GAIN is refused without a trace, or taken, whatever the demand store. -/
def Obligations.WriteHeadersAreRefusedOrTaken : Prop :=
  (∀ (p : BitVec 16) (s : State),
    (s.zone.storeOpen = false →
      exec (.writeDemand p false) s = .next
        { s with
          picture := { flags := { s.picture.flags with lateWrite := true }, frame := .nothing }
          sup := { s.sup with flags := { s.sup.flags with lateWrite := true } } })
    ∧ (s.zone.storeOpen = true → s.zone.cols * s.zone.rows ≤ positionStart p ∨ positionOrder p = none →
        exec (.writeDemand p false) s = .next { s with picture := { s.picture with frame := .nothing } })
    ∧ ∀ o, s.zone.storeOpen = true → positionStart p < s.zone.cols * s.zone.rows → positionOrder p = some o →
        ∃ k, s.zone.seqAt o k = some (positionStart p)
          ∧ exec (.writeDemand p false) s = .next { s with picture := { s.picture with frame := .writeDemand o k } })
  ∧ (∀ (set : Byte) (p : BitVec 16) (s : State),
    (s.zone.cols * s.zone.rows ≤ positionStart p ∨ positionOrder p = none →
      exec (.pictureWriteGain set p false) s = .next { s with picture := { s.picture with frame := .nothing } })
    ∧ ∀ o, positionStart p < s.zone.cols * s.zone.rows → positionOrder p = some o →
        ∃ k, s.zone.seqAt o k = some (positionStart p)
          ∧ exec (.pictureWriteGain set p false) s = .next
              { s with picture := { s.picture with
                  frame := .writeGain (if set.getLsbD 0 then .b else .a) o k } })

/-- R5, R9, R162: a value of a taken WRITE DEMAND goes to its position, and the next one wraps after N − 1; a value
of no taken write is discarded.
R5, R12, R15, R164, R169: a gain of a taken picture WRITE GAIN is written into the named set alone, or, in a
locked range, dropped with GAIN-LOCKED in both copies.
A value of no taken write changes nothing: that its row is a step there at all is the model's choice (log entry 3). -/
def Obligations.ValuesOfATakenWriteGoToTheirPosition : Prop :=
  (∀ (v : Demand) (s : State),
    (∀ o k, s.picture.frame = .writeDemand o k → k < s.zone.cols * s.zone.rows →
      ∃ z t, s.zone.seqAt o k = some z ∧ exec (.demandValue v) s = .next t
        ∧ (∀ i, t.zone.demandAt i = if i = z then v else s.zone.demandAt i)
        ∧ t = { s with
            zone := { s.zone with demand := t.zone.demand }
            picture := { s.picture with frame := .writeDemand o ((k + 1) % (s.zone.cols * s.zone.rows)) } })
    ∧ ((∀ o k, s.picture.frame ≠ .writeDemand o k) → exec (.demandValue v) s = .next s))
  ∧ (∀ (w : BitVec 16) (s : State),
    (∀ g o k, s.picture.frame = .writeGain g o k → k < s.zone.cols * s.zone.rows →
      ∃ z, s.zone.seqAt o k = some z
        ∧ ((∃ slot range, slot < 8 ∧ s.zone.lockAt slot = some range ∧ range.first ≤ z ∧ z ≤ range.last) →
            exec (.pictureGainValue w) s = .next
              { s with
                picture :=
                  { flags := { s.picture.flags with gainLocked := true }
                    frame := .writeGain g o ((k + 1) % (s.zone.cols * s.zone.rows)) }
                sup := { s.sup with flags := { s.sup.flags with gainLocked := true } } })
        ∧ ((∀ slot range, slot < 8 → s.zone.lockAt slot = some range → ¬(range.first ≤ z ∧ z ≤ range.last)) →
            ∃ t, exec (.pictureGainValue w) s = .next t
              ∧ (∀ h i, t.zone.gainAt h i = if h = g ∧ i = z then w.extractLsb' 0 11 else s.zone.gainAt h i)
              ∧ t = { s with
                  zone := { s.zone with gainA := t.zone.gainA, gainB := t.zone.gainB }
                  picture := { s.picture with
                    frame := .writeGain g o ((k + 1) % (s.zone.cols * s.zone.rows)) } }))
    ∧ ((∀ g o k, s.picture.frame ≠ .writeGain g o k) → exec (.pictureGainValue w) s = .next s))

/-- R5, R8, R9, R162, R186: the bytes of a whole WRITE DEMAND frame, run from the queue, fill the demand bank from the
start zone's position on, later visits over earlier ones, and change nothing else but the frame. -/
def Obligations.DemandFrameFillsTheBank : Prop :=
  ∀ (p : BitVec 16) (o : WriteOrder) (values : List Demand) (rest : List Instr) (s : State),
    s.zone.storeOpen = true → positionStart p < s.zone.cols * s.zone.rows → positionOrder p = some o →
    s.pending = pictureFrame (0x21 :: p.extractLsb' 8 8 :: p.extractLsb' 0 8 :: demandBytes values) ++ rest →
    ∃ t first,
      s.zone.seqAt o first = some (positionStart p)
        ∧ Sys2Proof.core.run (values.length + 1) s = .next t
        ∧ (∀ k v, values[k]? = some v →
            (∀ j, k < j → j < values.length →
              (first + j) % (s.zone.cols * s.zone.rows) ≠ (first + k) % (s.zone.cols * s.zone.rows)) →
            ∀ z, s.zone.seqAt o ((first + k) % (s.zone.cols * s.zone.rows)) = some z → t.zone.demandAt z = v)
        ∧ (∀ z, (∀ k, k < values.length →
              s.zone.seqAt o ((first + k) % (s.zone.cols * s.zone.rows)) ≠ some z) →
            t.zone.demandAt z = s.zone.demandAt z)
        ∧ t = { s with
            zone := { s.zone with demand := t.zone.demand }
            picture := { s.picture with frame := t.picture.frame }
            pending := rest }

/-- R5, R13: a supervisor WRITE GAIN is refused whole for range or for a lock, or writes all of its gains in one
event. -/
def Obligations.SupervisorWriteGainIsAllOrNothing : Prop :=
  ∀ (set h l : Byte) (rest : List Byte) (s : State),
    ((gainsOf rest).length = rest.length / 2
      ∧ ∀ k x y, rest[2 * k]? = some x → rest[2 * k + 1]? = some y →
          (gainsOf rest)[k]? = some ((x ++ y).extractLsb' 0 11))
    ∧ (s.zone.cols * s.zone.rows ≤ positionStart (h ++ l) ∨ positionOrder (h ++ l) = none
        ∨ rest.length / 2 = 0 ∨ 64 < rest.length / 2 →
      exec (.supervisorWriteGain (set :: h :: l :: rest)) s = .next
        { s with sup := { s.sup with lastResult := .range } })
    ∧ ∀ o, positionStart (h ++ l) < s.zone.cols * s.zone.rows → positionOrder (h ++ l) = some o →
        1 ≤ rest.length / 2 → rest.length / 2 ≤ 64 →
        ∃ first, s.zone.seqAt o first = some (positionStart (h ++ l))
          ∧ ((∃ k z, k < rest.length / 2
                ∧ s.zone.seqAt o ((first + k) % (s.zone.cols * s.zone.rows)) = some z ∧ s.zone.locked z = true) →
              exec (.supervisorWriteGain (set :: h :: l :: rest)) s = .next
                { s with sup := { s.sup with lastResult := .locked } })
          ∧ ((∀ k z, k < rest.length / 2 →
                s.zone.seqAt o ((first + k) % (s.zone.cols * s.zone.rows)) = some z → s.zone.locked z = false) →
              ∃ t, exec (.supervisorWriteGain (set :: h :: l :: rest)) s = .next t
                ∧ (∀ k v, (gainsOf rest)[k]? = some v →
                    (∀ j, k < j → j < rest.length / 2 →
                      (first + j) % (s.zone.cols * s.zone.rows) ≠ (first + k) % (s.zone.cols * s.zone.rows)) →
                    ∀ z, s.zone.seqAt o ((first + k) % (s.zone.cols * s.zone.rows)) = some z →
                      t.zone.gainAt (if set.getLsbD 0 then .b else .a) z = v)
                ∧ (∀ g z, g ≠ (if set.getLsbD 0 then .b else .a)
                      ∨ (∀ k, k < rest.length / 2 →
                          s.zone.seqAt o ((first + k) % (s.zone.cols * s.zone.rows)) ≠ some z) →
                    t.zone.gainAt g z = s.zone.gainAt g z)
                ∧ t = { s with
                    zone := { s.zone with gainA := t.zone.gainA, gainB := t.zone.gainB }
                    sup := { s.sup with lastResult := .ok } })

/-- R15: a slot that holds a range keeps it, and no gain of a locked zone changes, over every step but power-on
reset. -/
def Obligations.LocksHoldUntilPowerOnReset : Prop :=
  ∀ (c : Instr) (s t : State), exec c s = .next t → (∀ a h k f, c ≠ .powerOnReset a h k f) →
    (∀ slot range, slot < 8 → s.zone.lockAt slot = some range → t.zone.lockAt slot = some range)
    ∧ ∀ g z, s.zone.locked z = true → t.zone.locked z = true ∧ t.zone.gainAt g z = s.zone.gainAt g z

/-- R16, R15: LOCK RANGE, its checks in their order; a taken range locks its zones.
R17, R18: ZONE ENABLE and CLEAR FAULT act on every zone of their run, or are refused with RANGE.
R11, R25: SELECT GAIN SET moves the selector alone; a solve in flight keeps the set it copied.
R15: a zone is locked while it lies within the range of at least one slot. -/
def Obligations.ZoneCommandsActOnTheirRange : Prop :=
  (∀ (v : ZoneStore) (z : Nat),
    v.locked z = true ↔
      ∃ slot range, slot < 8 ∧ v.lockAt slot = some range ∧ range.first ≤ z ∧ z ≤ range.last)
  ∧ (∀ (slot a b c d : Byte) (rest : List Byte) (s : State),
    (8 ≤ slot.toNat →
      exec (.lockRange (slot :: a :: b :: c :: d :: rest)) s = .next
        { s with sup := { s.sup with lastResult := .range } })
    ∧ (slot.toNat < 8 → s.zone.lockAt slot.toNat ≠ none →
      exec (.lockRange (slot :: a :: b :: c :: d :: rest)) s = .next
        { s with sup := { s.sup with lastResult := .locked } })
    ∧ (slot.toNat < 8 → s.zone.lockAt slot.toNat = none →
      ¬(be16 a b ≤ be16 c d ∧ be16 c d < s.zone.cols * s.zone.rows) →
      exec (.lockRange (slot :: a :: b :: c :: d :: rest)) s = .next
        { s with sup := { s.sup with lastResult := .range } })
    ∧ (slot.toNat < 8 → s.zone.lockAt slot.toNat = none →
      be16 a b ≤ be16 c d → be16 c d < s.zone.cols * s.zone.rows →
      ∃ t, exec (.lockRange (slot :: a :: b :: c :: d :: rest)) s = .next t
        ∧ (∀ k, t.zone.lockAt k = if k = slot.toNat then some ⟨be16 a b, be16 c d⟩ else s.zone.lockAt k)
        ∧ (∀ z, t.zone.locked z = (s.zone.locked z || (be16 a b ≤ z && z ≤ be16 c d)))
        ∧ t = { s with
            zone := { s.zone with locks := t.zone.locks }, sup := { s.sup with lastResult := .ok } }))
  ∧ (∀ (a b c d on : Byte) (rest : List Byte) (s : State),
    (¬(be16 a b ≤ be16 c d ∧ be16 c d < s.zone.cols * s.zone.rows) →
      exec (.zoneEnable (a :: b :: c :: d :: on :: rest)) s = .next
        { s with sup := { s.sup with lastResult := .range } }
      ∧ exec (.clearFault (a :: b :: c :: d :: rest)) s = .next
        { s with sup := { s.sup with lastResult := .range } })
    ∧ (be16 a b ≤ be16 c d → be16 c d < s.zone.cols * s.zone.rows →
      (∃ t, exec (.zoneEnable (a :: b :: c :: d :: on :: rest)) s = .next t
        ∧ (∀ z, t.zone.enabled z = if be16 a b ≤ z ∧ z ≤ be16 c d then on.getLsbD 0 else s.zone.enabled z)
        ∧ t = { s with
            zone := { s.zone with enable := t.zone.enable }, sup := { s.sup with lastResult := .ok } })
      ∧ ∃ t, exec (.clearFault (a :: b :: c :: d :: rest)) s = .next t
        ∧ (∀ z, t.zone.faulty z = if be16 a b ≤ z ∧ z ≤ be16 c d then false else s.zone.faulty z)
        ∧ t = { s with
            zone := { s.zone with fault := t.zone.fault }, sup := { s.sup with lastResult := .ok } }))
  ∧ (∀ (g : Byte) (rest : List Byte) (s : State),
    exec (.selectGainSet (g :: rest)) s = .next
      { s with
        zone := { s.zone with liveSet := if g.getLsbD 0 then .b else .a }
        sup := { s.sup with lastResult := .ok } })

/-- R2, R3: SET GRID, its checks in their order and its effects. -/
def Obligations.SetGridRewritesTheZoneStore : Prop :=
  ∀ (c r : Byte) (rest : List Byte) (s : State),
    (¬(s.sup.op = .standby ∧ s.solver.phase = .idle) →
      exec (.setGrid (c :: r :: rest)) s = .next { s with sup := { s.sup with lastResult := .wrongState } })
    ∧ (s.sup.op = .standby → s.solver.phase = .idle →
      ¬(1 ≤ c.toNat ∧ c.toNat ≤ 64 ∧ 1 ≤ r.toNat ∧ r.toNat ≤ 40) →
      exec (.setGrid (c :: r :: rest)) s = .next { s with sup := { s.sup with lastResult := .range } })
    ∧ (s.sup.op = .standby → s.solver.phase = .idle →
      1 ≤ c.toNat → c.toNat ≤ 64 → 1 ≤ r.toNat → r.toNat ≤ 40 →
      ((∃ slot, slot < 8 ∧ s.zone.lockAt slot ≠ none) →
        exec (.setGrid (c :: r :: rest)) s = .next { s with sup := { s.sup with lastResult := .locked } })
      ∧ ((∀ slot, slot < 8 → s.zone.lockAt slot = none) →
        ∃ t, exec (.setGrid (c :: r :: rest)) s = .next t
          ∧ t.zone.cols = c.toNat ∧ t.zone.rows = r.toNat
          ∧ (∀ z, t.zone.demandAt z = 0 ∧ t.zone.enabled z = true ∧ t.zone.faulty z = false)
          ∧ (∀ g z, t.zone.gainAt g z = 1024)
          ∧ (∀ i, t.drivers.entryAt i = none)
          ∧ ((∃ o k, s.picture.frame = .writeDemand o k) ∨ (∃ g o k, s.picture.frame = .writeGain g o k)
              ∨ (∃ g a n, s.picture.frame = .readGain g a n) → t.picture.frame = .nothing)
          ∧ ((∃ a, s.picture.frame = .readMap a) ∨ (∃ a, s.picture.frame = .readStatus a) →
              t.picture.frame = s.picture.frame)
          ∧ t.link = s.link.entryGone (fun _ => true)
          ∧ t = { s with
              zone := { t.zone with
                storeOpen := s.zone.storeOpen, liveSet := s.zone.liveSet, locks := s.zone.locks }
              drivers := { s.drivers with entries := t.drivers.entries }
              link := t.link
              picture := { s.picture with frame := t.picture.frame }
              sup := { s.sup with lastResult := .ok } }))

/-- R14, R164: READ GAIN on both ports: the picture answer hides locked gains and follows later writes: whenever the
frame is in progress, every bit of a gain is sent as it stands in the state in which its first byte begins, whatever the
states in which the bits of its two bytes follow; the supervisor's copy holds every gain as stored; out of range
zeros, or RANGE.
That the supervisor's answer is a copy is the model's reading of R174 against R14 (log entry 22). -/
def Obligations.ReadGainHidesLockedGainsFromThePicturePort : Prop :=
  (∀ (set a b c d : Byte) (rest : List Byte) (s : State),
    (be16 a b % 4096 < s.zone.cols * s.zone.rows → 1 ≤ be16 c d → be16 c d ≤ 2560 →
      exec (.pictureReadGain set (a ++ b) (c ++ d) false) s = .next
        { s with picture := { s.picture with
            frame := .readGain (if set.getLsbD 0 then .b else .a) (be16 a b % 4096) (be16 c d) } })
    ∧ (¬(be16 a b % 4096 < s.zone.cols * s.zone.rows ∧ 1 ≤ be16 c d ∧ be16 c d ≤ 2560) →
      exec (.pictureReadGain set (a ++ b) (c ++ d) false) s = .next
        { s with picture := { s.picture with frame := .nothing } })
    ∧ (be16 a b < s.zone.cols * s.zone.rows → 1 ≤ be16 c d → be16 c d ≤ 2560 →
      exec (.supervisorReadGain (set :: a :: b :: c :: d :: rest)) s = .next
        { s with sup := { s.sup with
            lastResult := .ok
            readPointer := some (.gains ((List.range (be16 c d)).map fun k =>
              s.zone.gainAt (if set.getLsbD 0 then .b else .a)
                ((be16 a b + k) % (s.zone.cols * s.zone.rows)))) } })
    ∧ (¬(be16 a b < s.zone.cols * s.zone.rows ∧ 1 ≤ be16 c d ∧ be16 c d ≤ 2560) →
      exec (.supervisorReadGain (set :: a :: b :: c :: d :: rest)) s = .next
        { s with sup := { s.sup with lastResult := .range } }))
  ∧ (∀ (g : GainSet) (start count : Nat) (first s u : State),
    s.picture.frame = .readGain g start count → u.picture.frame = .readGain g start count →
    (∀ k, k < count →
      (s.pictureByte first (2 * k)).toNat * 256 + (u.pictureByte first (2 * k + 1)).toNat
        = if first.zone.locked ((start + k) % (first.zone.cols * first.zone.rows)) then 0
          else (first.zone.gainAt g ((start + k) % (first.zone.cols * first.zone.rows))).toNat)
    ∧ ∀ i, 2 * count ≤ i → u.pictureByte first i = 0)
  ∧ ∀ (s u : State) (i : Nat), u.picture.frame = .nothing → u.pictureByte s i = 0

/-! ### Chapters 2 and 3: the frame solve, domains and windows -/

/-- R7, R22 to R26, R28, R72: a taken CLOSE FRAME starts a picture solve in one event.
The start time is on the model's clock (log entry 1). -/
def Obligations.CloseFrameStartsAPictureSolve : Prop :=
  ∀ (c : Byte) (rest : List Byte) (s : State),
    s.sup.op = .run → s.zone.storeOpen = true → (c.getLsbD 5 = true → 3 ≤ rest.length) →
    ∃ t, exec (.closeFrame (c :: rest) false) s = .next t
      ∧ t.zone = { s.zone with storeOpen := false }
      ∧ t.banks =
          { s.banks with
            pendingBank := { s.banks.pendingBank with tag := ⟨c.getLsbD 7, s.banks.active.tag.count + 1⟩ }
            pend := .solving
            source := if s.timing.freeRun = .off then .ordinary else .pictureInLoss }
      ∧ t.solver.phase = .pass1 ∧ t.solver.kind = .picture ∧ t.solver.voided = false ∧ t.solver.cursor = 0
      ∧ t.solver.startTime = s.now ∧ (∀ d, t.solver.sums.get d = ⟨0, 0, 0, 0⟩)
      ∧ t.solver.params.gainSet = s.zone.liveSet
      ∧ t.solver.params.tf = max 6944 (min 20833 s.timing.tf)
      ∧ t.solver.params.sceneCut = c.getLsbD 6
      ∧ (c.getLsbD 5 = false →
          t.solver.params.rise = s.sup.rise ∧ t.solver.params.fall = s.sup.fall
          ∧ t.solver.params.windows =
              ((windowsOf (c.extractLsb' 2 3).toNat rest).take 4).filterMap (clipWindow s.zone.cols s.zone.rows))
      ∧ (c.getLsbD 5 = true → ∀ x y z more, rest = x :: y :: z :: more →
          t.solver.params.rise = x.toNat * 16 + y.toNat / 16
          ∧ t.solver.params.fall = y.toNat % 16 * 256 + z.toNat
          ∧ t.solver.params.windows =
              ((windowsOf (c.extractLsb' 2 3).toNat more).take 4).filterMap (clipWindow s.zone.cols s.zone.rows))
      ∧ (∀ x, x ∈ t.solver.snapshot ↔
          ∃ i e, i < 48 ∧ s.drivers.entryAt i = some e
            ∧ x = ⟨i, e.tile, e.domain, decide (e.state = .unreachable)⟩)
      ∧ t.timing = s.timing ∧ t.thermal = s.thermal ∧ t.events = s.events ∧ t.now = s.now
      ∧ t.picture.frame = .nothing
      ∧ t.sup = { s.sup with flags := t.sup.flags }

/-- R22, R169: a CLOSE FRAME outside RUN, on a CLOSED store or without its whole control fields is refused, and the
refusal sets CLOSE-REFUSED in both copies and does nothing else.
R43, R44, R113, R126, R169: what a taken CLOSE FRAME replaces. -/
def Obligations.CloseFrameIsRefusedOrReplacesWork : Prop :=
  (∀ (record : List Byte) (s : State),
    s.sup.op ≠ .run ∨ s.zone.storeOpen = false ∨ record = []
      ∨ (∃ c rest, record = c :: rest ∧ c.getLsbD 5 = true ∧ rest.length < 3) →
    exec (.closeFrame record false) s = .next
      { s with
        picture := { flags := { s.picture.flags with closeRefused := true }, frame := .nothing }
        sup := { s.sup with flags := { s.sup.flags with closeRefused := true } } })
  ∧ (∀ (c : Byte) (rest : List Byte) (s t : State),
    s.sup.op = .run → s.zone.storeOpen = true → (c.getLsbD 5 = true → 3 ≤ rest.length) →
    exec (.closeFrame (c :: rest) false) s = .next t →
    (s.solver.phase = .idle → s.banks.pend = .solved ∨ s.banks.pend = .shipped →
      t.picture.flags = { s.picture.flags with superseded := true }
      ∧ t.sup.flags = { s.sup.flags with superseded := true }
      ∧ t.drivers.round = none
      ∧ (∀ i, t.drivers.entryAt i =
          (s.drivers.entryAt i).map fun e => { e with attempts := 0, failed := false })
      ∧ t.link.liveLevels = [] ∧ t.link.queue = s.link.queue.filter fun m => !m.isLevel)
    ∧ (s.solver.phase = .idle → s.banks.pend = .empty ∨ s.banks.pend = .solving →
      t.picture.flags = s.picture.flags ∧ t.sup.flags = s.sup.flags ∧ t.drivers = s.drivers ∧ t.link = s.link)
    ∧ (s.solver.phase ≠ .idle →
      t.picture.flags =
        { s.picture.flags with superseded := s.picture.flags.superseded || !s.solver.voided }
      ∧ t.sup.flags = { s.sup.flags with superseded := s.sup.flags.superseded || !s.solver.voided }
      ∧ t.drivers = s.drivers ∧ t.link = s.link))

/-- R23, R51: the windows of a record are its complete ones, in order, and each is ignored or clipped to the grid. -/
def Obligations.WindowsAreReadWholeAndClipped : Prop :=
  (∀ (n : Nat) (bytes : List Byte),
    (windowsOf n bytes).length = min n (bytes.length / 4)
      ∧ ∀ k w, (windowsOf n bytes)[k]? = some w →
          (bytes[4 * k]?).map BitVec.toNat = some w.firstCol ∧ (bytes[4 * k + 1]?).map BitVec.toNat = some w.firstRow
          ∧ (bytes[4 * k + 2]?).map BitVec.toNat = some w.lastCol
          ∧ (bytes[4 * k + 3]?).map BitVec.toNat = some w.lastRow)
  ∧ ∀ (cols rows : Nat) (w : Window),
      (clipWindow cols rows w = none ↔
        w.lastCol < w.firstCol ∨ w.lastRow < w.firstRow ∨ cols ≤ w.firstCol ∨ rows ≤ w.firstRow)
      ∧ ∀ v, clipWindow cols rows w = some v → ∀ c r,
          (v.contains c r = true ↔
            c < cols ∧ r < rows ∧ w.firstCol ≤ c ∧ c ≤ w.lastCol ∧ w.firstRow ≤ r ∧ r ≤ w.lastRow)

/-- R29 to R36, R19, R27, R52: the record and the sums that pass 1 leaves, class by class.
R52: a focus zone lies in at least one window of the solve. R28: a zone belongs to the one driver of the snapshot whose
tile contains it. Zone z stands in column z % cols and row z / cols. -/
def Obligations.Pass1HandlesAZoneByItsClass : Prop :=
  (∀ (v : Solver) (cols z : Nat),
    (v.inFocus cols z = true ↔
      ∃ w ∈ v.params.windows,
        w.firstCol ≤ z % cols ∧ z % cols ≤ w.lastCol ∧ w.firstRow ≤ z / cols ∧ z / cols ≤ w.lastRow)
    ∧ ((∀ a ∈ v.snapshot, ∀ b ∈ v.snapshot, a ≠ b →
          ∀ x y, ¬(a.tile.contains x y = true ∧ b.tile.contains x y = true)) →
        ∀ e, v.ownerOf cols z = some e ↔
          e ∈ v.snapshot ∧ e.tile.col ≤ z % cols ∧ z % cols < e.tile.col + e.tile.width
            ∧ e.tile.row ≤ z / cols ∧ z / cols < e.tile.row + e.tile.height))
  ∧ ∀ (s : State), s.solver.phase = .pass1 → s.solver.cursor < s.zone.cols * s.zone.rows →
    ∃ t, exec .pass1Zone s = .next t
      ∧ (∀ y, y ≠ s.solver.cursor → t.banks.pendingBank.zone y = s.banks.pendingBank.zone y)
      ∧ (∀ e, s.solver.ownerOf s.zone.cols s.solver.cursor = some e → e.unreachable = true →
          t.banks.pendingBank.zone s.solver.cursor =
            { s.banks.active.zone s.solver.cursor with
              held := true, inactive := false, fault := s.zone.faulty s.solver.cursor
              focus := s.solver.inFocus s.zone.cols s.solver.cursor }
          ∧ ∀ d, t.solver.sums.get d =
              if d = e.domain then
                { s.solver.sums.get d with
                  carried := (s.solver.sums.get d).carried + (s.banks.active.zone s.solver.cursor).level }
              else s.solver.sums.get d)
      ∧ ((s.solver.ownerOf s.zone.cols s.solver.cursor = none
            ∨ (∃ e, s.solver.ownerOf s.zone.cols s.solver.cursor = some e ∧ e.unreachable = false)
              ∧ (s.zone.enabled s.solver.cursor = false ∨ s.zone.faulty s.solver.cursor = true)) →
          t.banks.pendingBank.zone s.solver.cursor =
            { level := 0, slewed := 0, residual := 0, code := 0, held := false, inactive := true
              fault := s.zone.faulty s.solver.cursor
              focus := s.solver.inFocus s.zone.cols s.solver.cursor }
          ∧ t.solver.sums = s.solver.sums)
      ∧ (∀ e demand slewed capped, s.solver.ownerOf s.zone.cols s.solver.cursor = some e →
          e.unreachable = false → s.zone.enabled s.solver.cursor = true → s.zone.faulty s.solver.cursor = false →
          demand = (if s.solver.kind = .picture then (s.zone.demandAt s.solver.cursor).toNat
            else s.solver.params.lossLevel) →
          slewed = slewStage s.solver.params
            (calibrate demand (s.zone.gainAt s.solver.params.gainSet s.solver.cursor).toNat)
            (s.banks.active.zone s.solver.cursor).slewed →
          capped = min slewed (s.thermal.get .reset e.index).cap →
          (t.banks.pendingBank.zone s.solver.cursor).level = capped
          ∧ (t.banks.pendingBank.zone s.solver.cursor).slewed = slewed
          ∧ (t.banks.pendingBank.zone s.solver.cursor).held = false
          ∧ (t.banks.pendingBank.zone s.solver.cursor).fault = false
          ∧ (t.banks.pendingBank.zone s.solver.cursor).inactive = false
          ∧ (t.banks.pendingBank.zone s.solver.cursor).focus = s.solver.inFocus s.zone.cols s.solver.cursor
          ∧ ∀ d, t.solver.sums.get d =
              if d = e.domain then
                (if s.solver.inFocus s.zone.cols s.solver.cursor then
                  { s.solver.sums.get d with focus := (s.solver.sums.get d).focus + capped }
                else { s.solver.sums.get d with nonFocus := (s.solver.sums.get d).nonFocus + capped })
              else s.solver.sums.get d)
      ∧ t = { s with
          now := t.now
          solver := { s.solver with
            phase := t.solver.phase, cursor := t.solver.cursor, sums := t.solver.sums, inputs := t.solver.inputs }
          banks := { s.banks with pendingBank := { s.banks.pendingBank with zones := t.banks.pendingBank.zones } }
          zone := { s.zone with storeOpen := t.zone.storeOpen } }

/-- R7, R20, R21, R36, R37, R53: pass 1 walks on, and at zone N − 1 the solver enters FACTOR with the budgets,
recovery steps and ACTIVE factors of that moment, and a picture solve reopens the demand store.
R20, R21, R37: the factor step gives every domain its factors and enters PASS2.
The times are counted on the model's clock, its own choice (log entries 1 and 2). -/
def Obligations.Pass1LeadsToTheFactorStep : Prop :=
  (∀ (s t : State), s.solver.phase = .pass1 → s.solver.cursor < s.zone.cols * s.zone.rows →
    exec .pass1Zone s = .next t →
    (s.solver.cursor + 1 < s.zone.cols * s.zone.rows →
      t.solver.phase = .pass1 ∧ t.solver.cursor = s.solver.cursor + 1 ∧ t.zone.storeOpen = s.zone.storeOpen
      ∧ t.now = max s.now (s.solver.startTime + s.solver.cursor / 32))
    ∧ (s.solver.cursor + 1 = s.zone.cols * s.zone.rows →
      t.solver.phase = .factor
      ∧ t.now = max s.now (s.solver.startTime + (s.zone.cols * s.zone.rows + 31) / 32)
      ∧ (s.solver.kind = .picture → t.zone.storeOpen = true)
      ∧ (s.solver.kind = .loss → t.zone.storeOpen = s.zone.storeOpen)
      ∧ ∀ d, t.solver.inputs.get d =
          ⟨(s.sup.budgets.get d).budget, (s.sup.budgets.get d).recovery, (s.banks.active.domains.get d).kn,
            (s.banks.active.domains.get d).kf⟩))
  ∧ (∀ (s : State), s.solver.phase = .factor →
    ∃ t, exec .factorStep s = .next t
      ∧ (∀ d, t.solver.factors.get d = domainFactors (s.solver.inputs.get d) (s.solver.sums.get d))
      ∧ t = { s with
          now := max s.now (s.solver.startTime + (s.zone.cols * s.zone.rows + 31) / 32 + 1)
          solver := { s.solver with phase := .pass2, cursor := 0, factors := t.solver.factors } })

/-- R38 to R40: pass 2 scales and dithers an active zone and passes over every other.
R20, R21, R40, R41, R46, R60: pass 2 walks on; at zone N − 1 the domain records are written, the solver is IDLE,
and the map is SOLVED, or SHIPPED at once where nothing is to be shipped, or stays discarded when voided.
R74, R109, R110: with the gate OPEN its round begins in that event: the listed entries' attempt counts are 0, every
failed mark is clear, and the LEVEL of the entry at the head, with the pending tag and the tile's codes, is queued.
The times are counted on the model's clock, its own choice (log entries 1 and 2). -/
def Obligations.Pass2WritesTheMap : Prop :=
  (∀ (s : State), s.solver.phase = .pass2 → s.solver.cursor < s.zone.cols * s.zone.rows →
    ∃ t, exec .pass2Zone s = .next t
      ∧ (∀ y, y ≠ s.solver.cursor → t.banks.pendingBank.zone y = s.banks.pendingBank.zone y)
      ∧ (((s.banks.pendingBank.zone s.solver.cursor).held = true
            ∨ (s.banks.pendingBank.zone s.solver.cursor).inactive = true) →
          t.banks.pendingBank.zone s.solver.cursor = s.banks.pendingBank.zone s.solver.cursor
          ∧ t.solver.sums = s.solver.sums)
      ∧ (∀ e level, (s.banks.pendingBank.zone s.solver.cursor).held = false →
          (s.banks.pendingBank.zone s.solver.cursor).inactive = false →
          s.solver.ownerOf s.zone.cols s.solver.cursor = some e →
          level = (s.banks.pendingBank.zone s.solver.cursor).level
            * (if (s.banks.pendingBank.zone s.solver.cursor).focus then (s.solver.factors.get e.domain).kf
                else (s.solver.factors.get e.domain).kn) / 4096 →
          t.banks.pendingBank.zone s.solver.cursor =
            { s.banks.pendingBank.zone s.solver.cursor with
              level := level
              code := (dither level (s.banks.active.zone s.solver.cursor).residual).1
              residual := (dither level (s.banks.active.zone s.solver.cursor).residual).2 }
          ∧ ∀ d, t.solver.sums.get d =
              if d = e.domain then { s.solver.sums.get d with level := (s.solver.sums.get d).level + level }
              else s.solver.sums.get d)
      ∧ t.zone = s.zone ∧ t.banks.active = s.banks.active ∧ t.timing = s.timing ∧ t.thermal = s.thermal
      ∧ t.events = s.events ∧ t.picture = s.picture ∧ t.sup = s.sup)
  ∧ (∀ (s t : State), s.solver.phase = .pass2 → s.solver.cursor < s.zone.cols * s.zone.rows →
    exec .pass2Zone s = .next t →
    (s.solver.cursor + 1 < s.zone.cols * s.zone.rows →
      t.solver.phase = .pass2 ∧ t.solver.cursor = s.solver.cursor + 1 ∧ t.solver.voided = s.solver.voided
      ∧ t.banks.pend = s.banks.pend ∧ t.drivers = s.drivers ∧ t.link = s.link
      ∧ t.now = max s.now (s.solver.startTime + (s.zone.cols * s.zone.rows + 31) / 32 + 1 + s.solver.cursor / 32))
    ∧ (s.solver.cursor + 1 = s.zone.cols * s.zone.rows →
      t.solver.phase = .idle ∧ t.solver.voided = false
      ∧ t.now = max s.now (s.solver.startTime + 2 * ((s.zone.cols * s.zone.rows + 31) / 32) + 1)
      ∧ (∀ d, t.banks.pendingBank.domains.get d =
          ⟨(s.solver.factors.get d).kn, (s.solver.factors.get d).kf,
            (t.solver.sums.get d).level + (t.solver.sums.get d).carried, (s.solver.inputs.get d).budget⟩)
      ∧ (s.solver.voided = true →
          t.banks.pend = s.banks.pend ∧ t.drivers = s.drivers ∧ t.link = s.link)
      ∧ (s.solver.voided = false → s.timing.gateOpen = false →
          t.banks.pend = .solved ∧ t.drivers = s.drivers ∧ t.link = s.link)
      ∧ (s.solver.voided = false → s.timing.gateOpen = true →
          t.drivers = { s.drivers with entries := t.drivers.entries, round := some s.drivers.shippable }
          ∧ (∀ i, t.drivers.entryAt i = (s.drivers.entryAt i).map fun e =>
              { e with
                attempts := if e.state = .reachable ∨ e.state = .failing then 0 else e.attempts, failed := false })
          ∧ (s.drivers.shippable = [] → t.banks.pend = .shipped ∧ t.link = s.link)
          ∧ (s.drivers.shippable ≠ [] → t.banks.pend = .solved)
          ∧ ∀ i rest e, s.drivers.shippable = i :: rest → s.drivers.entryAt i = some e →
              t.link = s.link.send (.level i e.addr s.banks.pendingBank.tag
                ((List.range (e.tile.width * e.tile.height)).map fun k =>
                  (t.banks.pendingBank.zone
                    ((e.tile.row + k / e.tile.width) * s.zone.cols + (e.tile.col + k % e.tile.width))).code)))))

/-- R32: the calibrate stage rounds to nearest, saturates at zone full scale and leaves a demand at unity gain.
R33, R34: the slew stage moves towards the calibrated level by at most the scaled steps, and is skipped at a
scene cut.
R39: a code and its residual keep the whole level, but for the saturation at code 1023. -/
def Obligations.StagesComputeTheirFormulas : Prop :=
  (∀ (d g : Nat),
    calibrate d g = min 4095 ((d * g + 512) / 1024) ∧ calibrate d g ≤ 4095
    ∧ (d ≤ 4095 → calibrate d 1024 = d) ∧ calibrate d 0 = 0)
  ∧ (∀ (p : SolveParams) (c prev : Nat),
    (p.sceneCut = true → slewStage p c prev = c)
    ∧ (p.sceneCut = false →
        (prev < c → slewStage p c prev = min c (prev + min 4095 (p.rise * p.tf / 8333)))
        ∧ (c < prev → slewStage p c prev = max c (prev - min 4095 (p.fall * p.tf / 8333)))
        ∧ (c = prev → slewStage p c prev = c)
        ∧ slewStage p c prev ≤ prev + min 4095 (p.rise * p.tf / 8333)
        ∧ prev ≤ slewStage p c prev + min 4095 (p.fall * p.tf / 8333)))
  ∧ (∀ (a r : Nat), a ≤ 4095 → r ≤ 3 →
    (a + r ≤ 4095 → 4 * (dither a r).1 + (dither a r).2 = a + r)
    ∧ (4096 ≤ a + r → dither a r = (1023, 0))
    ∧ (dither a r).1 ≤ 1023 ∧ (dither a r).2 ≤ 3)

/-- R53 to R56: the three branches, their edges and the recovery limit.
R57, R53, R54, R56, R38: the levels of a domain's active zones, each scaled by its tier's factor, fit in what the
carried levels leave of the budget; where those exceed it every active level is 0. -/
def Obligations.FactorsFitTheBudgetAndRecoverByOneStep : Prop :=
  (∀ (i : FactorInput) (sums : DomainSums) (beff : Nat), beff = i.budget - sums.carried →
    (sums.nonFocus + sums.focus ≤ beff →
      domainFactors i sums = ⟨min 4096 (i.prevN + i.recovery), min 4096 (i.prevF + i.recovery)⟩)
    ∧ (beff < sums.nonFocus + sums.focus → sums.focus < beff →
      domainFactors i sums =
        ⟨min ((beff - sums.focus) * 4096 / sums.nonFocus) (i.prevN + i.recovery),
          min 4096 (i.prevF + i.recovery)⟩
      ∧ (domainFactors i sums).kn ≤ 4095)
    ∧ (beff < sums.nonFocus + sums.focus → beff ≤ sums.focus → 0 < sums.focus →
      domainFactors i sums = ⟨0, min (beff * 4096 / sums.focus) (i.prevF + i.recovery)⟩)
    ∧ (beff < sums.nonFocus + sums.focus → sums.focus = 0 → beff = 0 →
      domainFactors i sums = ⟨0, min 4096 (i.prevF + i.recovery)⟩)
    ∧ (domainFactors i sums).kn ≤ 4096 ∧ (domainFactors i sums).kf ≤ 4096
    ∧ (domainFactors i sums).kn ≤ i.prevN + i.recovery ∧ (domainFactors i sums).kf ≤ i.prevF + i.recovery)
  ∧ (∀ (i : FactorInput) (carried handled : Nat) (focus nonFocus : List Nat) (f : Factors),
    f = domainFactors i ⟨carried, focus.sum, nonFocus.sum, handled⟩ →
    (focus.map fun h => h * f.kf / 4096).sum + (nonFocus.map fun h => h * f.kn / 4096).sum
      ≤ i.budget - carried)

/-- R57: on every state the budget invariant is kept by every step: a waiting map's level sums lie within the budget
they were solved with, or are the carried levels alone. -/
def Obligations.EveryStepKeepsTheBudget : Prop :=
  ∀ (s t : State), PendingInv s → OutsideRunInv s → BudgetInv s → step s = .next t → BudgetInv t

/-! ### Chapters 4 and 5: frame starts, commit, scan bands -/

/-- R65, R66, R68, R189: an edge whose low level is too short is not taken, nor is one after a high level too short to
be taken, which brings no new level; one outside RUN or with HOLD high passes, and a runt sets RUNT-FS in both copies
and does nothing else.
R65, R66, R67, R81: an accepted frame start measures Tf where the reference is present, sets the reference,
restarts the loss timer and makes the commit decision.
R84: an edge in free-run ends it, without a runt check and without measuring, posts SIGNAL-RESTORED and makes the
commit decision.
The times are counted on the model's clock, its own choice (log entries 1 and 2). The four periods of the filter are
numbers the command carries, the model's reading (log entry 7). That SIGNAL-RESTORED carries the tag from before the
commit decision is the model's reading (log entry 10). -/
def Obligations.FsyncEdgesAreJudged : Prop :=
  (∀ (time held high : Nat) (s : State),
    (held < 4 →
      exec (.fsyncFallingEdge time held high) s = .next
        { s with timing := { s.timing with fsync := s.timing.fsync || decide (4 ≤ high) } })
    ∧ (4 ≤ held → s.timing.fsync = false → high < 4 → exec (.fsyncFallingEdge time held high) s = .next s)
    ∧ (4 ≤ held → s.timing.fsync = true ∨ 4 ≤ high → s.sup.op ≠ .run ∨ s.timing.hold = true →
      exec (.fsyncFallingEdge time held high) s = .next
        { s with now := max s.now time, timing := { s.timing with fsync := false } })
    ∧ (∀ r, 4 ≤ held → s.timing.fsync = true ∨ 4 ≤ high → s.sup.op = .run → s.timing.hold = false →
      s.timing.freeRun = .off → s.timing.edgeRef = some r → max s.now time - r < 4000 →
      exec (.fsyncFallingEdge time held high) s = .next
        { s with
          now := max s.now time
          timing := { s.timing with fsync := false }
          picture := { s.picture with flags := { s.picture.flags with runtFs := true } }
          sup := { s.sup with flags := { s.sup.flags with runtFs := true } } }))
  ∧ (∀ (time held high : Nat) (s : State), 4 ≤ held → s.timing.fsync = true ∨ 4 ≤ high →
    s.sup.op = .run → s.timing.hold = false →
    (s.timing.freeRun = .off → (∀ r, s.timing.edgeRef = some r → 4000 ≤ max s.now time - r) →
      exec (.fsyncFallingEdge time held high) s = .next (State.frameStart
        { s with
          now := max s.now time
          timing :=
            { s.timing with
              fsync := false
              tf := (s.timing.edgeRef.map fun r => max s.now time - r).getD s.timing.tf
              edgeRef := some (max s.now time)
              lossTimer := some (max s.now time) } }))
    ∧ (s.timing.freeRun ≠ .off →
      exec (.fsyncFallingEdge time held high) s = .next (State.frameStart
        { s with
          now := max s.now time
          timing :=
            { s.timing with
              fsync := false
              freeRun := .off, edgeRef := some (max s.now time), lossTimer := some (max s.now time) }
          events := s.events.post s.banks.active.tag .signalRestored none none none })))

/-- R76, R79, R95, R96: a frame start that finds no SHIPPED map flushes the bands not yet due, sets FLUSHED for them
and LATE-COMMIT in both copies, and leaves both banks, the gate and everything else alone. -/
def Obligations.FrameStartWithoutAShippedMapIsLate : Prop :=
  ∀ (s : State), s.banks.pend ≠ .shipped →
    ((∀ c, s.timing.schedule = some c → c.bands ≤ c.cursor) →
      s.frameStart =
        { s with
          picture := { s.picture with flags := { s.picture.flags with lateCommit := true } }
          sup := { s.sup with flags := { s.sup.flags with lateCommit := true } } })
    ∧ ∀ c, s.timing.schedule = some c → c.cursor < c.bands →
      s.frameStart =
        { s with
          picture := { s.picture with flags := { s.picture.flags with flushed := true, lateCommit := true } }
          sup := { s.sup with flags := { s.sup.flags with flushed := true, lateCommit := true } }
          link := s.link.sendAll ((List.range' c.cursor (c.bands - c.cursor)).map fun b => .latch c.tag b)
          timing := { s.timing with schedule := some { c with cursor := c.bands } } }

/-- R61, R76, R77, R78, R89, R97, R112: a frame start that finds a SHIPPED map commits it: the banks change roles,
the zones of failed drivers are carried forward held with their domain's sum recomputed, the schedule starts, the
gate closes and the round is closed.
That the zones are found by the Driver Table as it stands and that the posts carry the new tag are the model's
readings (log entries 21 and 10); the commit time is on the model's clock (log entry 1). -/
def Obligations.FrameStartCommitsAShippedMap : Prop :=
  ∀ (s t : State), GateInv s → DriverInv s → s.banks.pend = .shipped → t = s.frameStart →
    t.banks.pend = .empty ∧ t.banks.pendingBank = s.banks.active
    ∧ t.banks.active.tag = s.banks.pendingBank.tag
    ∧ (∀ z i e, z < s.zone.cols * s.zone.rows → s.drivers.entryAt i = some e →
        e.tile.contains (z % s.zone.cols) (z / s.zone.cols) = true → e.failed = true →
        t.banks.active.zone z =
          { s.banks.active.zone z with
            held := true, inactive := false
            fault := (s.banks.pendingBank.zone z).fault, focus := (s.banks.pendingBank.zone z).focus })
    ∧ (∀ z, (∀ i e, z < s.zone.cols * s.zone.rows → s.drivers.entryAt i = some e →
          e.tile.contains (z % s.zone.cols) (z / s.zone.cols) = true → e.failed = false) →
        t.banks.active.zone z = s.banks.pendingBank.zone z)
    ∧ (∀ d, (t.banks.active.domains.get d).kn = (s.banks.pendingBank.domains.get d).kn
        ∧ (t.banks.active.domains.get d).kf = (s.banks.pendingBank.domains.get d).kf
        ∧ (t.banks.active.domains.get d).budget = (s.banks.pendingBank.domains.get d).budget
        ∧ ((∀ i e, s.drivers.entryAt i = some e → e.domain = d → e.failed = false) →
            (t.banks.active.domains.get d).levelSum = (s.banks.pendingBank.domains.get d).levelSum)
        ∧ ((∃ i e, s.drivers.entryAt i = some e ∧ e.domain = d ∧ e.failed = true) →
            (t.banks.active.domains.get d).levelSum =
              ((List.range (s.zone.cols * s.zone.rows)).map fun z =>
                match s.drivers.owner (z % s.zone.cols) (z / s.zone.cols) with
                | some (_, e) => if e.domain = d then (t.banks.active.zone z).level else 0
                | none => 0).sum))
    ∧ t.timing.gateOpen = false
    ∧ (∃ c, t.timing.schedule = some c ∧ c.tag = s.banks.pendingBank.tag ∧ c.bands = s.sup.scan.bands
        ∧ c.base = s.sup.scan.base ∧ c.step = s.sup.scan.step ∧ c.commitTime = s.now ∧ c.ended = 0
        ∧ (∀ b, b < c.bands → (b < c.cursor ↔ c.commitTime + c.base + b * c.step = s.now))
        ∧ t.link = s.link.sendAll ((List.range c.cursor).map fun b => .latch c.tag b))
    ∧ t.drivers.round = none
    ∧ (∀ i, t.drivers.entryAt i = (s.drivers.entryAt i).map fun e =>
        if e.failed then
          { e with
            misses := min 4 (e.misses + 1), attempts := 0, failed := false
            state := if e.misses + 1 < 4 then e.state else .unreachable }
        else { e with attempts := 0 })
    ∧ t.events = s.events.postAll s.banks.pendingBank.tag
        (((List.range 48).filter fun i =>
          match s.drivers.entryAt i with
          | some e => e.failed && decide (4 ≤ e.misses + 1)
          | none => false).map fun i => ⟨.driverUnreachable, some i, none, none⟩)
    ∧ t.picture = s.picture ∧ t.sup = s.sup ∧ t.zone = s.zone ∧ t.solver = s.solver ∧ t.thermal = s.thermal
    ∧ t.timing.tf = s.timing.tf ∧ t.timing.edgeRef = s.timing.edgeRef ∧ t.timing.lossTimer = s.timing.lossTimer

/-- R68, R69, R189: HOLD's edges in RUN, in free-run and outside RUN; an edge too short, or one that brings no new
level, is not taken.
The times are counted on the model's clock, its own choice (log entries 1 and 2). The four periods of the filter are
a number the command carries, the model's reading (log entry 7). -/
def Obligations.HoldSuspendsAndRestartsTheFrameClock : Prop :=
  ∀ (time held : Nat) (s : State),
    (held < 4 ∨ s.timing.hold = true → exec (.holdRise time held) s = .next s)
    ∧ (held < 4 ∨ s.timing.hold = false → exec (.holdFall time held) s = .next s)
    ∧ (4 ≤ held → s.timing.hold = false →
      (s.sup.op ≠ .run →
        exec (.holdRise time held) s = .next
          { s with now := max s.now time, timing := { s.timing with hold := true } })
      ∧ (s.sup.op = .run → s.timing.freeRun = .off →
        exec (.holdRise time held) s = .next
          { s with
            now := max s.now time
            timing := { s.timing with hold := true, edgeRef := none, lossTimer := none } })
      ∧ (s.sup.op = .run → s.timing.freeRun ≠ .off →
        exec (.holdRise time held) s = .next
          { s with
            now := max s.now time
            timing := { s.timing with hold := true, edgeRef := none, lossTimer := none, freeRun := .paused } }))
    ∧ (4 ≤ held → s.timing.hold = true →
      (s.sup.op ≠ .run →
        exec (.holdFall time held) s = .next
          { s with now := max s.now time, timing := { s.timing with hold := false } })
      ∧ (s.sup.op = .run → s.timing.freeRun = .off →
        exec (.holdFall time held) s = .next
          { s with
            now := max s.now time
            timing := { s.timing with hold := false, lossTimer := some (max s.now time) } })
      ∧ (s.sup.op = .run → s.timing.freeRun ≠ .off →
        exec (.holdFall time held) s = .next
          { s with
            now := max s.now time
            timing := { s.timing with hold := false, freeRun := .running (max s.now time + 16667) } }))

/-- R81, R82, R83: the loss timer's expiry and the generator's next start: what each does before and besides the
frame start it makes.
R25, R26, R27, R45, R83: the table of loss solves: begun, begun over a waiting ORDINARY map, or not begun.
R80: SET LOSS clamps and stores, and a running timer that has reached the new timeout expires in the same
event.
The times are counted on the model's clock, its own choice (log entries 1 and 2). A command that cannot arise in its
state changes nothing, by the model's choice (log entry 3). That SIGNAL-LOSS carries the tag from before the commit
decision is the model's reading (log entry 10). -/
def Obligations.SignalLossStartsFreeRunAndLossSolves : Prop :=
  (∀ (s : State),
    (∀ t, s.timing.lossTimer = some t →
      exec .lossTimerExpiry s = .next (State.lossSolve (State.frameStart
        { s with
          now := max s.now (t + s.sup.loss.steps * 25000)
          timing :=
            { s.timing with
              edgeRef := none, lossTimer := none
              freeRun := .running (max s.now (t + s.sup.loss.steps * 25000) + 16667) }
          events := s.events.post s.banks.active.tag .signalLoss none none none })))
    ∧ (s.timing.lossTimer = none → exec .lossTimerExpiry s = .next s)
    ∧ (∀ t, s.timing.freeRun = .running t →
      exec .internalFrameStart s = .next (State.lossSolve (State.frameStart
        { s with now := max s.now t, timing := { s.timing with freeRun := .running (t + 16667) } })))
    ∧ ((∀ t, s.timing.freeRun ≠ .running t) → exec .internalFrameStart s = .next s))
  ∧ (∀ (s : State),
    (s.solver.phase ≠ .idle ∨ (s.banks.pend = .solved ∧ s.banks.source = .pictureInLoss) → s.lossSolve = s)
    ∧ (s.solver.phase = .idle → ¬(s.banks.pend = .solved ∧ s.banks.source = .pictureInLoss) →
      s.lossSolve.solver.phase = .pass1 ∧ s.lossSolve.solver.kind = .loss ∧ s.lossSolve.solver.voided = false
      ∧ s.lossSolve.solver.cursor = 0 ∧ s.lossSolve.solver.startTime = s.now
      ∧ (∀ d, s.lossSolve.solver.sums.get d = ⟨0, 0, 0, 0⟩)
      ∧ s.lossSolve.solver.params =
          { gainSet := s.zone.liveSet, rise := s.sup.rise, fall := s.sup.fall, tf := 16667, sceneCut := false
            windows := [], lossLevel := s.sup.loss.level }
      ∧ s.lossSolve.banks =
          { s.banks with
            pendingBank := { s.banks.pendingBank with
              tag := ⟨s.banks.active.tag.epoch, s.banks.active.tag.count + 1⟩ }
            pend := .solving
            source := .ordinary }
      ∧ s.lossSolve.zone = s.zone ∧ s.lossSolve.timing = s.timing ∧ s.lossSolve.thermal = s.thermal
      ∧ (s.banks.pend = .solved ∨ s.banks.pend = .shipped →
          s.lossSolve.picture.flags = { s.picture.flags with superseded := true }
          ∧ s.lossSolve.sup.flags = { s.sup.flags with superseded := true }
          ∧ s.lossSolve.drivers.round = none ∧ s.lossSolve.link.liveLevels = [])
      ∧ (s.banks.pend = .empty →
          s.lossSolve.picture = s.picture ∧ s.lossSolve.sup = s.sup ∧ s.lossSolve.drivers = s.drivers
          ∧ s.lossSolve.link = s.link)))
  ∧ (∀ (n a b : Byte) (rest : List Byte) (s u : State),
    u = { s with sup := { s.sup with
      lastResult := .ok
      loss := { steps := max 1 (min 16 n.toNat), level := min 4095 (be16 a b) } } } →
    ((∀ t, s.timing.lossTimer = some t → s.now - t < max 1 (min 16 n.toNat) * 25000) →
      exec (.setLoss (n :: a :: b :: rest)) s = .next u)
    ∧ ∀ t, s.timing.lossTimer = some t → max 1 (min 16 n.toNat) * 25000 ≤ s.now - t →
      exec (.setLoss (n :: a :: b :: rest)) s = .next (State.lossSolve (State.frameStart
        { u with
          timing :=
            { s.timing with edgeRef := none, lossTimer := none, freeRun := .running (s.now + 16667) }
          events := s.events.post s.banks.active.tag .signalLoss none none none })))

/-- R88: where the grid has at least as many rows as bands, every band holds floor(R / Nb) or ceil(R / Nb) rows and at
least one; bands rise from the top, and every row lies in one of them.
R88, R93: a driver device that took a LEVEL lights its whole shadow once every band of its tag has been latched,
in whatever order, and nothing at a LATCH of another tag.
The driver device of the second clause is the manual's description of what the JD2560 relies on (log entry 14). -/
def Obligations.BandsDivideTheRows : Prop :=
  (∀ (rows bands : Nat), 0 < bands → bands ≤ rows →
    (∀ r, r < rows → bandOfRow r bands rows < bands)
    ∧ (∀ r r', r ≤ r' → bandOfRow r bands rows ≤ bandOfRow r' bands rows)
    ∧ ∀ b, b < bands →
      1 ≤ ((List.range rows).filter fun r => bandOfRow r bands rows = b).length
      ∧ (((List.range rows).filter fun r => bandOfRow r bands rows = b).length = rows / bands
        ∨ ((List.range rows).filter fun r => bandOfRow r bands rows = b).length = (rows + bands - 1) / bands))
  ∧ (∀ (d : DriverDevice) (rows bands : Nat) (tag : Tag) (codes order : List Nat),
    (∀ other band, other ≠ tag →
      (d.acceptLevel tag codes).latch rows bands other band = d.acceptLevel tag codes)
    ∧ (codes.length = d.tile.width * d.tile.height → d.tile.row + d.tile.height ≤ rows → 0 < bands →
      (∀ b, b < bands → b ∈ order) →
      (order.foldl (fun x b => x.latch rows bands tag b) (d.acceptLevel tag codes)).lit = codes))

/-- R89, R90: the LATCH of the cursor's band is queued at its due time, with the schedule's tag.
R141: the reset gap ends, and idle periods are counted anew.
R135: the poll timer's expiry queues a POLL unless one is queued, and the timer starts again.
The times are counted on the model's clock, its own choice (log entries 1 and 2). A command that cannot arise in its
state changes nothing, by the model's choice (log entry 3). The count of idle periods is log entry 12. -/
def Obligations.TimedEventsQueueTheirMessages : Prop :=
  (∀ (s : State),
    (∀ c, s.timing.schedule = some c → c.cursor < c.bands →
      exec .latchDue s = .next
        { s with
          now := max s.now (c.commitTime + c.base + c.cursor * c.step)
          link := s.link.send (.latch c.tag c.cursor)
          timing := { s.timing with schedule := some { c with cursor := c.cursor + 1 } } })
    ∧ ((∀ c, s.timing.schedule = some c → c.bands ≤ c.cursor) → exec .latchDue s = .next s))
  ∧ (∀ (s : State),
    (s.link.resetGap = true →
      exec .resetGapEnd s = .next { s with link := { s.link with resetGap := false, idlePeriods := 0 } })
    ∧ (s.link.resetGap = false → exec .resetGapEnd s = .next s))
  ∧ (∀ (s : State),
    (∀ x, s.link.pollTimer = some x →
      exec .pollTimerExpiry s = .next
        { s with
          now := max s.now (x + s.link.pollInterval * 1000)
          link :=
            { s.link with
              pollTimer := some (x + s.link.pollInterval * 1000)
              queue := if .poll ∈ s.link.queue then s.link.queue else enqueue .poll s.link.queue } })
    ∧ (s.link.pollTimer = none → exec .pollTimerExpiry s = .next s))

/-- R91, R97, R126, R127, R133: the ending of a LATCH: resent after an error report up to twice, dropped when its
claim is withdrawn, or counted as sent; with the last band the schedule is IDLE and the gate OPEN.
R74, R109, R110: the round of a SOLVED map begins in that event: the listed entries' attempt counts are 0, every failed
mark is clear, and the LEVEL of the entry at the head is queued; with none listed the map is SHIPPED.
R127, R133: the ending of a BLANK: resent after an error report up to twice, even in SAFE, or counted as sent.
What the line becomes at the ending follows the model's reading in log entry 11, its idle count log entry 12. -/
def Obligations.BroadcastsAreResentAtMostTwice : Prop :=
  (∀ (tag : Tag) (band resends : Nat) (claim kept error wide : Bool) (s : State) (l : Link),
    s.link.line = .message ⟨.latch tag band, claim, resends, kept⟩ →
    l = { s.link with
      line := .idle, idlePeriods := 0
      lineMode := (if s.link.modeMoved then (if wide then .polled else .quiet) else s.link.mode)
      modeMoved := false, lineRate := s.link.rate } →
    (error = true → claim = true → resends < 2 →
      exec (.latchEnding error wide) s = .next
        { s with link := { l with resend := some ⟨.latch tag band, true, resends + 1, kept⟩ } })
    ∧ (claim = false → exec (.latchEnding error wide) s = .next { s with link := l })
    ∧ (claim = true → error = false ∨ 2 ≤ resends →
      (s.timing.schedule = none → exec (.latchEnding error wide) s = .next { s with link := l })
      ∧ (∀ c, s.timing.schedule = some c → c.ended + 1 < c.bands →
        exec (.latchEnding error wide) s = .next
          { s with link := l, timing := { s.timing with schedule := some { c with ended := c.ended + 1 } } })
      ∧ (∀ c, s.timing.schedule = some c → c.bands ≤ c.ended + 1 →
        ∃ t, exec (.latchEnding error wide) s = .next t ∧ t.timing.schedule = none ∧ t.timing.gateOpen = true
          ∧ t.zone = s.zone ∧ t.solver = s.solver ∧ t.banks.active = s.banks.active ∧ t.thermal = s.thermal
          ∧ t.events = s.events ∧ t.picture = s.picture ∧ t.sup = s.sup
          ∧ (s.banks.pend ≠ .solved →
              t = { s with link := l, timing := { s.timing with schedule := none, gateOpen := true } })
          ∧ (s.banks.pend = .solved →
              (∀ i, t.drivers.entryAt i = (s.drivers.entryAt i).map fun e =>
                  { e with
                    attempts := if e.state = .reachable ∨ e.state = .failing then 0 else e.attempts, failed := false })
              ∧ (s.drivers.shippable = [] →
                t = { s with
                  link := l, timing := { s.timing with schedule := none, gateOpen := true }
                  banks := { s.banks with pend := .shipped }
                  drivers := { s.drivers with entries := t.drivers.entries, round := some [] } })
              ∧ ∀ i rest e, s.drivers.shippable = i :: rest → s.drivers.entryAt i = some e →
                t = { s with
                  link := l.send (.level i e.addr s.banks.pendingBank.tag
                    ((List.range (e.tile.width * e.tile.height)).map fun k =>
                      (s.banks.pendingBank.zone
                        ((e.tile.row + k / e.tile.width) * s.zone.cols + (e.tile.col + k % e.tile.width))).code))
                  timing := { s.timing with schedule := none, gateOpen := true }
                  drivers :=
                    { s.drivers with entries := t.drivers.entries, round := some s.drivers.shippable } }))))
  ∧ (∀ (resends : Nat) (claim kept error wide : Bool) (s : State) (l : Link),
    s.link.line = .message ⟨.blank, claim, resends, kept⟩ →
    l = { s.link with
      line := .idle, idlePeriods := 0
      lineMode := (if s.link.modeMoved then (if wide then .polled else .quiet) else s.link.mode)
      modeMoved := false, lineRate := s.link.rate } →
    (error = true → claim = true → resends < 2 →
      exec (.blankEnding error wide) s = .next
        { s with link := { l with resend := some ⟨.blank, true, resends + 1, kept⟩ } })
    ∧ (error = false ∨ claim = false ∨ 2 ≤ resends →
      exec (.blankEnding error wide) s = .next { s with link := l }))

/-! ### Chapter 6: Driver Table and shipping -/

/-- R101, R102, R103, R143, R144: LOAD DRIVER in STANDBY: absent, or a present entry whose fields, tile and address
pass every check; else RANGE. R185, R187: a presence code that is not defined is RANGE.
R101: a zone belongs to the present entry whose tile contains it. R144: a READ in flight for an entry that is loaded or
made absent no longer concerns it. -/
def Obligations.LoadDriverChecksTileAndAddress : Prop :=
  (∀ (s : State), DriverInv s → ∀ col row i e,
    s.drivers.owner col row = some (i, e) ↔
      s.drivers.entryAt i = some e ∧ e.tile.col ≤ col ∧ col < e.tile.col + e.tile.width
        ∧ e.tile.row ≤ row ∧ row < e.tile.row + e.tile.height)
  ∧ (∀ (l : Link) (which : Nat → Bool),
    l.entryGone which = { l with line := (l.entryGone which).line }
    ∧ ((∀ i addr asker claim resends kept,
          l.line ≠ .message ⟨.read i addr asker, claim, resends, kept⟩) → (l.entryGone which).line = l.line)
    ∧ ∀ i addr asker claim resends kept, l.line = .message ⟨.read i addr asker, claim, resends, kept⟩ →
        (l.entryGone which).line = .message ⟨.read i addr asker, claim, resends, kept && !which i⟩)
  ∧ ∀ (i a c r w h d p q : Byte) (rest : List Byte) (s : State), DriverInv s →
    (∀ params, s.sup.op ≠ .standby →
      exec (.loadDriver params) s = .next { s with sup := { s.sup with lastResult := .wrongState } })
    ∧ (s.sup.op = .standby → 48 ≤ i.toNat →
      exec (.loadDriver (i :: 1 :: a :: c :: r :: w :: h :: d :: p :: q :: rest)) s = .next
        { s with sup := { s.sup with lastResult := .range } }
      ∧ exec (.loadDriver (i :: 0 :: rest)) s = .next { s with sup := { s.sup with lastResult := .range } })
    ∧ (s.sup.op = .standby → ∀ presence : Byte, 2 ≤ presence.toNat →
      exec (.loadDriver (i :: presence :: rest)) s = .next { s with sup := { s.sup with lastResult := .range } })
    ∧ (s.sup.op = .standby → i.toNat < 48 →
      ∃ t, exec (.loadDriver (i :: 0 :: rest)) s = .next t
        ∧ (∀ j, t.drivers.entryAt j = if j = i.toNat then none else s.drivers.entryAt j)
        ∧ t = { s with
            drivers := { s.drivers with entries := t.drivers.entries }
            link := s.link.entryGone fun j => i.toNat = j
            sup := { s.sup with lastResult := .ok } })
    ∧ (s.sup.op = .standby → i.toNat < 48 →
      a.toNat ≤ 62 ∧ c.toNat ≤ 63 ∧ r.toNat ≤ 39 ∧ 1 ≤ w.toNat ∧ w.toNat ≤ 16 ∧ 1 ≤ h.toNat ∧ h.toNat ≤ 16
        ∧ w.toNat * h.toNat ≤ 64 ∧ d.toNat ≤ 3 ∧ p.toNat ≤ 15
        ∧ c.toNat + w.toNat ≤ s.zone.cols ∧ r.toNat + h.toNat ≤ s.zone.rows
        ∧ (∀ j e, j ≠ i.toNat → s.drivers.entryAt j = some e →
            e.addr ≠ a.toNat
            ∧ ∀ x y, ¬((⟨c.toNat, r.toNat, w.toNat, h.toNat⟩ : Tile).contains x y = true
                ∧ e.tile.contains x y = true)) →
      ∃ t e, exec (.loadDriver (i :: 1 :: a :: c :: r :: w :: h :: d :: p :: q :: rest)) s = .next t
        ∧ e.addr = a.toNat ∧ e.tile = ⟨c.toNat, r.toNat, w.toNat, h.toNat⟩ ∧ e.domain.val = d.toNat
        ∧ e.pwm = p.toNat ∧ e.current = q.toNat ∧ e.state = .unprobed ∧ e.misses = 0 ∧ e.attempts = 0
        ∧ e.failed = false
        ∧ (∀ j, t.drivers.entryAt j = if j = i.toNat then some e else s.drivers.entryAt j)
        ∧ (∀ j, t.thermal.get .reset j = if j = i.toNat then ⟨25, 0, 4095, .normal, .none⟩
            else s.thermal.get .reset j)
        ∧ t = { s with
            drivers := { s.drivers with entries := t.drivers.entries }
            link := s.link.entryGone fun j => i.toNat = j
            thermal := t.thermal
            sup := { s.sup with lastResult := .ok } })
    ∧ (s.sup.op = .standby → i.toNat < 48 →
      ¬(a.toNat ≤ 62 ∧ c.toNat ≤ 63 ∧ r.toNat ≤ 39 ∧ 1 ≤ w.toNat ∧ w.toNat ≤ 16 ∧ 1 ≤ h.toNat ∧ h.toNat ≤ 16
        ∧ w.toNat * h.toNat ≤ 64 ∧ d.toNat ≤ 3 ∧ p.toNat ≤ 15
        ∧ c.toNat + w.toNat ≤ s.zone.cols ∧ r.toNat + h.toNat ≤ s.zone.rows
        ∧ (∀ j e, j ≠ i.toNat → s.drivers.entryAt j = some e →
            e.addr ≠ a.toNat
            ∧ ∀ x y, ¬((⟨c.toNat, r.toNat, w.toNat, h.toNat⟩ : Tile).contains x y = true
                ∧ e.tile.contains x y = true))) →
      exec (.loadDriver (i :: 1 :: a :: c :: r :: w :: h :: d :: p :: q :: rest)) s = .next
        { s with sup := { s.sup with lastResult := .range } })

/-- R105, R107, R154, R178, R179: START, refused or taken, and the entry to DISCOVERY: every present entry is UNPROBED
and the first one's CONFIG is queued, or, with none present, the device is back in STANDBY with DISCOVERY-EMPTY
posted. -/
def Obligations.StartBeginsDiscovery : Prop :=
  (∀ (params : List Byte) (s : State),
    (s.sup.op ≠ .standby ∨ s.zone.cols * s.zone.rows = 0 ∨ s.sup.kill = false →
      exec (.start params) s = .next { s with sup := { s.sup with lastResult := .wrongState } })
    ∧ (s.sup.op = .standby → s.zone.cols * s.zone.rows ≠ 0 → s.sup.kill = true →
      exec (.start params) s = .next (State.enterDiscovery { s with sup := { s.sup with lastResult := .ok } })))
  ∧ ∀ (s t : State), t = s.enterDiscovery →
    (∀ i, t.drivers.entryAt i = (s.drivers.entryAt i).map fun e =>
        { e with state := .unprobed, misses := 0, attempts := 0, failed := false })
    ∧ t.drivers.round = none ∧ t.drivers.probes = [] ∧ t.drivers.rotation = s.drivers.rotation
    ∧ t.sup = { s.sup with op := t.sup.op }
    ∧ t.now = s.now ∧ t.zone = s.zone ∧ t.solver = s.solver ∧ t.banks = s.banks ∧ t.timing = s.timing
    ∧ t.thermal = s.thermal ∧ t.picture = s.picture ∧ t.pending = s.pending
    ∧ (∀ i e, i < 48 → s.drivers.entryAt i = some e → (∀ j, j < i → s.drivers.entryAt j = none) →
        t.sup.op = .discovery ∧ t.drivers.discovery = some i ∧ t.events = s.events
        ∧ t.link = s.link.send (.config i e.addr e.pwm e.current e.tile.width e.tile.height false))
    ∧ ((∀ i, i < 48 → s.drivers.entryAt i = none) →
        t.sup.op = .standby ∧ t.drivers.discovery = none
        ∧ t.events = s.events.post s.banks.active.tag .discoveryEmpty none none none
        ∧ t.link = { s.link with queue := s.link.queue.filter fun m => !m.isAttention })

/-- R104, R106, R108, R126: the ending of a discovery CONFIG: ACCEPT makes the entry REACHABLE and queues its READ;
any other makes it UNREACHABLE with a post, and discovery goes on or ends; a withdrawn claim drops it.
R71, R85, R97, R105, R106, R107, R115, R135: where discovery goes when an entry's work is done: to the next
present entry's CONFIG, or, with none left, into RUN when an entry is REACHABLE and back to STANDBY when none is.
What the line becomes at the ending follows the model's reading in log entry 11, its idle count log entry 12. The
times are on the model's clock (log entry 1). -/
def Obligations.DiscoveryWorksThroughTheEntries : Prop :=
  (∀ (i addr pwm cur w h resends : Nat) (claim kept wide : Bool) (status : LinkStatus)
      (s : State) (l : Link),
    s.link.line = .message ⟨.config i addr pwm cur w h false, claim, resends, kept⟩ →
    l = { s.link with
      line := .idle, idlePeriods := 0
      lineMode := (if s.link.modeMoved then (if wide then .polled else .quiet) else s.link.mode)
      modeMoved := false, lineRate := s.link.rate } →
    (claim = false → exec (.discoveryConfigEnding status wide) s = .next { s with link := l })
    ∧ (∀ e, claim = true → s.drivers.entryAt i = some e → status = ⟨true, 0⟩ →
      ∃ t, exec (.discoveryConfigEnding status wide) s = .next t
        ∧ (∀ j, t.drivers.entryAt j = if j = i then some { e with state := .reachable } else s.drivers.entryAt j)
        ∧ t = { s with
            link := l.send (.read i addr .discovery)
            drivers := { s.drivers with entries := t.drivers.entries } })
    ∧ (∀ e, claim = true → s.drivers.entryAt i = some e → status ≠ ⟨true, 0⟩ →
      ∃ u : State, (∀ j, u.drivers.entryAt j =
            if j = i then some { e with state := .unreachable } else s.drivers.entryAt j)
        ∧ u = { s with
            link := l
            drivers := { s.drivers with entries := u.drivers.entries }
            events := s.events.post s.banks.active.tag .driverUnreachable (some i) none none }
        ∧ exec (.discoveryConfigEnding status wide) s = .next u.discoveryNext))
  ∧ (∀ (i : Nat) (s t : State), DriverInv s → s.drivers.discovery = some i → t = s.discoveryNext →
    (∀ j e, i < j → s.drivers.entryAt j = some e → (∀ k, i < k → k < j → s.drivers.entryAt k = none) →
      t = { s with
        drivers := { s.drivers with discovery := some j }
        link := s.link.send (.config j e.addr e.pwm e.current e.tile.width e.tile.height false) })
    ∧ ((∀ j, i < j → s.drivers.entryAt j = none) →
      ((∃ j e, s.drivers.entryAt j = some e ∧ e.state = .reachable) →
        t = { s with
          sup := { s.sup with op := .run }
          banks := { s.banks with active := Bank.reset s.banks.active.tag }
          timing :=
            { s.timing with
              edgeRef := none, tf := 16667, freeRun := .off, schedule := none, gateOpen := true
              lossTimer := if s.timing.hold then none else some s.now }
          drivers := { s.drivers with rotation := none, discovery := none }
          link := { s.link with pollTimer := if s.link.mode = .polled then some s.now else none } })
      ∧ ((∀ j e, s.drivers.entryAt j = some e → e.state ≠ .reachable) →
        t = { s with
          sup := { s.sup with op := .standby }
          drivers := { s.drivers with discovery := none }
          events := s.events.post s.banks.active.tag .discoveryEmpty none none none
          link := { s.link with queue := s.link.queue.filter fun m => !m.isAttention } })))

/-- R104, R109, R110, R113, R125, R126: the ending of a LEVEL, ending by ending and attempt by attempt, and the
round's next LEVEL; with its claim withdrawn it is dropped, whatever round there is.
What the line becomes at the ending follows the model's reading in log entry 11, its idle count log entry 12. That
the attempt count rises at the ending, and stays at 3, is the model's reading (log entry 9). -/
def Obligations.LevelEndingsWorkTheRoundsList : Prop :=
  ∀ (i addr resends : Nat) (tag : Tag) (codes : List Nat) (claim kept wide : Bool) (status : LinkStatus)
      (s : State) (l : Link),
    s.link.line = .message ⟨.level i addr tag codes, claim, resends, kept⟩ →
    l = { s.link with
      line := .idle, idlePeriods := 0
      lineMode := (if s.link.modeMoved then (if wide then .polled else .quiet) else s.link.mode)
      modeMoved := false, lineRate := s.link.rate } →
    (claim = false → exec (.levelEnding status wide) s = .next { s with link := l })
    ∧ ∀ (e : DriverEntry) (list : List Nat),
      claim = true → s.drivers.entryAt i = some e → s.drivers.round = some (i :: list) →
      ∃ (u : State) (e' : DriverEntry) (list' : List Nat),
        exec (.levelEnding status wide) s = .next (State.continueRound u)
        ∧ (∀ j, u.drivers.entryAt j = if j = i then some e' else s.drivers.entryAt j)
        ∧ u = { s with
            link := l, drivers := { s.drivers with entries := u.drivers.entries, round := some list' } }
        ∧ (endingOf status = .accept → list' = list
            ∧ e' = { e with
                attempts := min 3 (e.attempts + 1), misses := 0
                state := if e.state = .failing then .reachable else e.state })
        ∧ (endingOf status = .busy → e.attempts + 1 < 3 →
            list' = list ++ [i] ∧ e' = { e with attempts := min 3 (e.attempts + 1) })
        ∧ (endingOf status = .checksumError ∨ endingOf status = .noResponse → e.attempts + 1 < 3 →
            list' = i :: list ∧ e' = { e with attempts := min 3 (e.attempts + 1) })
        ∧ (endingOf status ≠ .accept → 3 ≤ e.attempts + 1 →
            list' = list ∧ e' = { e with attempts := min 3 (e.attempts + 1), state := .failing, failed := true })

/-- R74, R109, R110, R115: a round goes on with the LEVEL of the entry at its head, carrying the tile's codes in tile
raster order; with its list empty the map becomes SHIPPED and the rotation READ goes to the next entry in turn,
unless one still waits. R109: the list of a new round is the present entries in REACHABLE or FAILING, in index order. -/
def Obligations.RoundsShipEveryListedEntryThenTheMapIsShipped : Prop :=
  ∀ (s : State),
    ((∀ i, i ∈ s.drivers.shippable ↔
        i < 48 ∧ ∃ e, s.drivers.entryAt i = some e ∧ (e.state = .reachable ∨ e.state = .failing))
      ∧ s.drivers.shippable.Pairwise (· < ·))
    ∧ (∀ i list e, s.drivers.round = some (i :: list) → s.drivers.entryAt i = some e →
      s.continueRound =
        { s with link := s.link.send (.level i e.addr s.banks.pendingBank.tag
            ((List.range (e.tile.width * e.tile.height)).map fun k =>
              (s.banks.pendingBank.zone
                ((e.tile.row + k / e.tile.width) * s.zone.cols + (e.tile.col + k % e.tile.width))).code)) })
    ∧ (s.drivers.round = some [] → s.banks.pend = .solved → s.timing.gateOpen = true →
      s.continueRound.banks = { s.banks with pend := .shipped }
      ∧ ((∃ m ∈ s.link.queue, m.isRotation = true) →
          s.continueRound = { s with banks := { s.banks with pend := .shipped } })
      ∧ ((∀ m ∈ s.link.queue, m.isRotation = false) →
        (s.drivers.shippable = [] → s.continueRound = { s with banks := { s.banks with pend := .shipped } })
        ∧ ∀ i e, i < 48 → s.drivers.entryAt i = some e → e.state = .reachable ∨ e.state = .failing →
          (∀ k f, k < 48 → s.drivers.entryAt k = some f → f.state = .reachable ∨ f.state = .failing →
            (i + 48 - ((s.drivers.rotation.map fun x => x + 1).getD 0)) % 48
              ≤ (k + 48 - ((s.drivers.rotation.map fun x => x + 1).getD 0)) % 48) →
          (∀ x, s.drivers.rotation = some x → x < 48) →
          s.continueRound =
            { s with
              banks := { s.banks with pend := .shipped }
              drivers := { s.drivers with rotation := some i }
              link := s.link.send (.read i e.addr .rotation) }))

/-- R116: PROBE, its checks in their order; a taken one queues the entry's CONFIG unless its probe is outstanding.
R104, R111, R117, R126: the ending of a PROBE's CONFIG: ACCEPT recovers the entry, joins it to the round of a
SOLVED map and queues its READ; any other ends the probe; a withdrawn claim drops it.
What the line becomes at the ending follows the model's reading in log entry 11, its idle count log entry 12. -/
def Obligations.ProbesRecoverADriver : Prop :=
  (∀ (i : Byte) (rest : List Byte) (s : State),
    (s.sup.op ≠ .run →
      exec (.probe (i :: rest)) s = .next { s with sup := { s.sup with lastResult := .wrongState } })
    ∧ (s.sup.op = .run → 48 ≤ i.toNat →
      exec (.probe (i :: rest)) s = .next { s with sup := { s.sup with lastResult := .range } })
    ∧ (s.sup.op = .run → i.toNat < 48 → (∀ e, s.drivers.entryAt i.toNat = some e → e.state ≠ .unreachable) →
      exec (.probe (i :: rest)) s = .next { s with sup := { s.sup with lastResult := .wrongState } })
    ∧ ∀ e, s.sup.op = .run → i.toNat < 48 → s.drivers.entryAt i.toNat = some e → e.state = .unreachable →
      (i.toNat ∈ s.drivers.probes →
        exec (.probe (i :: rest)) s = .next { s with sup := { s.sup with lastResult := .ok } })
      ∧ (i.toNat ∉ s.drivers.probes →
        exec (.probe (i :: rest)) s = .next
          { s with
            sup := { s.sup with lastResult := .ok }
            drivers := { s.drivers with probes := s.drivers.probes ++ [i.toNat] }
            link := s.link.send (.config i.toNat e.addr e.pwm e.current e.tile.width e.tile.height true) }))
  ∧ (∀ (i addr pwm cur w h resends : Nat) (claim kept wide : Bool) (status : LinkStatus)
      (s : State) (l : Link),
    s.link.line = .message ⟨.config i addr pwm cur w h true, claim, resends, kept⟩ →
    l = { s.link with
      line := .idle, idlePeriods := 0
      lineMode := (if s.link.modeMoved then (if wide then .polled else .quiet) else s.link.mode)
      modeMoved := false, lineRate := s.link.rate } →
    (claim = false → exec (.probeConfigEnding status wide) s = .next { s with link := l })
    ∧ (claim = true → endingOf status ≠ .accept →
      exec (.probeConfigEnding status wide) s = .next
        { s with
          link := l
          drivers := { s.drivers with probes := s.drivers.probes.filter fun j => j ≠ i } })
    ∧ (∀ e, claim = true → s.drivers.entryAt i = some e → endingOf status = .accept →
      ∃ t, exec (.probeConfigEnding status wide) s = .next t
        ∧ (∀ j, t.drivers.entryAt j =
            if j = i then some { e with state := .reachable, misses := 0, attempts := 0 }
            else s.drivers.entryAt j)
        ∧ t = { s with
            link := l.send (.read i addr .probe)
            drivers :=
              { s.drivers with
                entries := t.drivers.entries
                round := if s.banks.pend = .solved then s.drivers.round.map fun list => list ++ [i]
                  else s.drivers.round }
            events := s.events.post s.banks.active.tag .driverRecovered (some i) none none }))

/-! ### Chapter 7: the drive link -/

/-- R130: the classes of the messages; a queued message stands behind every waiting message of its class and before
every lower class.
R121, R127, R131, R133, R139, R141: a choice on an idle line past its gap: the waiting resend; else the first
message that is not to be removed; else none.
R114, R131: no LEVEL and no READ begins for an UNREACHABLE entry, and in SAFE no LEVEL, LATCH or CONFIG.
A command that cannot arise in its state changes nothing, by the model's choice (log entry 3). That a waiting LATCH
resend does not begin in SAFE is the model's reading (log entry 19). -/
def Obligations.TheArbiterBeginsTheFirstServable : Prop :=
  (∀ (l : Link) (m : Message) (more : List Message) (op : OpState) (d : DriverTable),
    m.cls = (match m with
      | .blank => 1
      | .latch _ _ => 2
      | .read _ _ .attention => 3
      | .level _ _ _ _ => 4
      | .config _ _ _ _ _ _ _ | .read _ _ .discovery | .read _ _ .probe => 5
      | .read _ _ .rotation => 6
      | .poll => 7)
    ∧ (m.isLevel = true ↔ m.cls = 4) ∧ (m.isAttention = true ↔ m.cls = 3) ∧ (m.isRotation = true ↔ m.cls = 6)
    ∧ (∀ i, m.lookedUp = some i ↔
        (∃ addr tag codes, m = .level i addr tag codes) ∨ ∃ addr asker, m = .read i addr asker)
    ∧ (removable op d m = true ↔
        (∃ i e, m.lookedUp = some i ∧ d.entryAt i = some e ∧ e.state = .unreachable)
          ∨ (op = .safe ∧ (m.cls = 2 ∨ m.cls = 4 ∨ m.cls = 5)))
    ∧ l.send m = { l with queue := enqueue m l.queue }
    ∧ l.sendAll [] = l ∧ l.sendAll (m :: more) = (l.send m).sendAll more)
  ∧ (∀ (m : Message) (q : List Message), q.Pairwise (fun a b => a.cls ≤ b.cls) →
    (enqueue m q).Pairwise (fun a b => a.cls ≤ b.cls)
    ∧ ∀ k, (enqueue m q).filter (fun x => x.cls = k) =
        q.filter (fun x => x.cls = k) ++ (if m.cls = k then [m] else []))
  ∧ (∀ (s : State),
    (s.link.line ≠ .idle ∨ s.link.resetGap = true → exec .transmitChoice s = .next s)
    ∧ (s.link.line = .idle → s.link.resetGap = false →
      (∀ m, s.link.resend = some m → s.sup.op ≠ .safe ∨ m.msg = .blank →
        ∃ t, exec .transmitChoice s = .next t
          ∧ t = { s with link := { s.link with
              line := .message m, resend := none, attentionHold := false, idlePeriods := t.link.idlePeriods } })
      ∧ (∀ m, s.link.resend = some m → s.sup.op = .safe → m.msg ≠ .blank →
        exec .transmitChoice s = exec .transmitChoice { s with link := { s.link with resend := none } })
      ∧ (s.link.resend = none → s.link.queue = [] →
        ∃ t, exec .transmitChoice s = .next t
          ∧ t = { s with link := { s.link with idlePeriods := t.link.idlePeriods } })
      ∧ (∀ m rest, s.link.resend = none → s.link.queue = m :: rest → removable s.sup.op s.drivers m = false →
        ∃ t, exec .transmitChoice s = .next t
          ∧ t = { s with link := { s.link with
              line := .message ⟨m, true, 0, true⟩, queue := rest, attentionHold := false
              idlePeriods := t.link.idlePeriods } })
      ∧ (∀ m rest, s.link.resend = none → s.link.queue = m :: rest → removable s.sup.op s.drivers m = true →
        exec .transmitChoice s = exec .transmitChoice
          { s with
            link := { s.link with queue := rest }
            drivers := { s.drivers with
              probes := s.drivers.probes.filter fun i =>
                match m with
                | .read j _ .probe => i ≠ j
                | _ => true } })))
  ∧ (∀ (c : Instr) (s t : State) (m : InFlight), exec c s = .next t → s.link.line = .idle →
    t.link.line = .message m → s.link.resend = none ∨ s.sup.op = .safe →
    (s.sup.op = .safe → m.msg.isLevel = false ∧ (∀ tag b, m.msg ≠ .latch tag b)
      ∧ ∀ i addr p q w h f, m.msg ≠ .config i addr p q w h f)
    ∧ ∀ i e, m.msg.lookedUp = some i → s.drivers.entryAt i = some e → e.state ≠ .unreachable)

/-- R120, R133, R134, R135: SET LINK, its checks in their order and what a taken one does to the settings, the poll
timer and a waiting POLL.
The poll timer's start is on the model's clock (log entry 1). That a mode changed under a message or an arbitration is
marked, so that its stop pulse may be of either width, is the model's way to R133 (log entry 11). -/
def Obligations.SetLinkStoresAllThree : Prop :=
  ∀ (r m i : Byte) (rest : List Byte) (s : State) (rate : LinkRate) (mode : LinkMode),
    rate = (if r = 0 then .mhz20 else .mhz10) → mode = (if m = 0 then .quiet else .polled) →
    (¬(r.toNat ≤ 1 ∧ m.toNat ≤ 1 ∧ 1 ≤ i.toNat ∧ i.toNat ≤ 15) →
      exec (.setLink (r :: m :: i :: rest)) s = .next { s with sup := { s.sup with lastResult := .range } })
    ∧ (r.toNat ≤ 1 ∧ m.toNat ≤ 1 ∧ 1 ≤ i.toNat ∧ i.toNat ≤ 15 →
      (rate ≠ s.link.rate → s.sup.op ≠ .standby →
        exec (.setLink (r :: m :: i :: rest)) s = .next
          { s with sup := { s.sup with lastResult := .wrongState } })
      ∧ (rate = s.link.rate ∨ s.sup.op = .standby →
        exec (.setLink (r :: m :: i :: rest)) s = .next
          { s with
            sup := { s.sup with lastResult := .ok }
            link :=
              { s.link with
                rate := rate
                lineRate := if s.link.line = .idle then rate else s.link.lineRate
                mode := mode
                modeMoved := s.link.modeMoved || (decide (s.link.line ≠ .idle) && decide (mode ≠ s.link.mode))
                pollInterval := i.toNat
                pollTimer :=
                  if mode = .quiet then none
                  else if s.sup.op = .run ∧ (s.link.mode = .quiet ∨ s.link.pollInterval ≠ i.toNat) then some s.now
                  else s.link.pollTimer
                queue :=
                  if s.link.mode = .polled ∧ mode = .quiet then s.link.queue.filter (fun x => x ≠ .poll)
                  else s.link.queue } }))

/-- R136, R140: a POLL's low slots are its attention requests in address order; all 63 low is a void POLL.
R114, R130, R140: an attention request queues one READ in class 3 for a REACHABLE or FAILING entry of that address,
in DISCOVERY and RUN, and is dropped otherwise.
What the line becomes at the ending follows the model's reading in log entry 11, its idle count log entry 12. -/
def Obligations.AttentionRequestsAreResolved : Prop :=
  (∀ (low : BitVec 63) (claim kept wide : Bool) (resends : Nat) (s : State),
    s.link.line = .message ⟨.poll, claim, resends, kept⟩ →
    exec (.pollEnding low wide) s = .next
      { s with link := ((if low = BitVec.allOnes 63 then [] else
          (List.range 63).filter fun a => low.getLsbD a).foldl
        (fun l a => Link.attentionRequest s.sup.op s.drivers l a)
        { s.link with
          line := .idle, idlePeriods := 0
          lineMode := (if s.link.modeMoved then (if wide then .polled else .quiet) else s.link.mode)
          modeMoved := false, lineRate := s.link.rate }) })
  ∧ (∀ (op : OpState) (d : DriverTable) (l : Link) (addr : Nat),
    (∀ i e, i < 48 → d.entryAt i = some e → e.addr = addr →
      (∀ j f, j < 48 → d.entryAt j = some f → f.addr = addr → j = i) →
      (op = .discovery ∨ op = .run → e.state = .reachable ∨ e.state = .failing →
        (∀ a, .read i a .attention ∉ l.queue) →
        (∀ m a, l.line = .message m → m.msg ≠ .read i a .attention) →
        l.attentionRequest op d addr = { l with queue := enqueue (.read i addr .attention) l.queue })
      ∧ (¬(op = .discovery ∨ op = .run) ∨ ¬(e.state = .reachable ∨ e.state = .failing)
          ∨ (∃ a, .read i a .attention ∈ l.queue)
          ∨ (∃ m a, l.line = .message m ∧ m.msg = .read i a .attention) →
        l.attentionRequest op d addr = l))
    ∧ ((∀ i e, i < 48 → d.entryAt i = some e → e.addr ≠ addr) → l.attentionRequest op d addr = l))

/-- R127, R137, R139, R141: attention windows: sampled in quiet line mode on an idle line past its gap with no resend
waiting; a low one starts an arbitration unless the hold is set with messages waiting. Any window of an idle line past
its gap, sampled or not, clears the hold when no message waits (log entry 26).
R133, R138, R139, R140: the end of an arbitration sets the hold; what was read, inverted, is a priority and an
address: thermal '10' or fault '01' with an address below 63 is an attention request, anything else is void.
What the line becomes at the ending follows the model's reading in log entry 11, its idle count log entry 12. A
command that cannot arise in its state changes nothing, by the model's choice (log entry 3). -/
def Obligations.AttentionWindowsStartArbitrations : Prop :=
  (∀ (s : State),
    (s.link.line = .idle → s.link.resetGap = false → s.link.lineMode = .quiet → s.link.resend = none →
      (s.link.attentionHold = false ∨ s.link.queue = [] →
        ∃ t, exec .attentionStart s = .next t
          ∧ t = { s with link := { s.link with
              line := .arbitration, attentionHold := false, idlePeriods := t.link.idlePeriods } })
      ∧ (s.link.attentionHold = true → s.link.queue ≠ [] → exec .attentionStart s = .next s))
    ∧ (s.link.line = .idle → s.link.resetGap = false →
      ∃ t, exec .attentionWindow s = .next t
        ∧ t = { s with link := { s.link with
            attentionHold := if s.link.queue = [] then false else s.link.attentionHold
            idlePeriods := t.link.idlePeriods } })
    ∧ (¬(s.link.line = .idle ∧ s.link.resetGap = false ∧ s.link.lineMode = .quiet ∧ s.link.resend = none) →
      exec .attentionStart s = .next s)
    ∧ (¬(s.link.line = .idle ∧ s.link.resetGap = false) → exec .attentionWindow s = .next s))
  ∧ (∀ (priority : BitVec 2) (addr : BitVec 6) (wide : Bool) (s : State) (l : Link),
    l = { s.link with
      line := .idle, idlePeriods := 0
      lineMode := (if s.link.modeMoved then (if wide then .polled else .quiet) else s.link.mode)
      modeMoved := false, lineRate := s.link.rate, attentionHold := true } →
    (s.link.line = .arbitration →
      ((priority = 2 ∨ priority = 1) → addr.toNat < 63 →
        exec (.arbitrationEnd (~~~priority ++ ~~~addr) wide) s = .next
          { s with link := l.attentionRequest s.sup.op s.drivers addr.toNat })
      ∧ (priority = 0 ∨ priority = 3 ∨ addr.toNat = 63 →
        exec (.arbitrationEnd (~~~priority ++ ~~~addr) wide) s = .next { s with link := l }))
    ∧ (s.link.line ≠ .arbitration → exec (.arbitrationEnd (~~~priority ++ ~~~addr) wide) s = .next s))

/-- R123: the groups of a run of periods: whole groups of eight, first period most significant, and a short last one
padded with 0 in its low positions; the checksum makes them sum to 0 modulo 256, in eight periods.
R125: the ending read from the turnaround and the two status periods.
R128, R129, R188: what makes a READ ending invalid, and what a valid one carries, field by field; a response that a
driver forms from a report, followed by an idle line, is read back as that report after ACCEPT, and is invalid after
any other ending.
That the periods after the response read as an idle line is the model's reading (log entry 16). -/
def Obligations.LinkFieldsAreReadBack : Prop :=
  ((∀ (a b c d e f g h : Bool) (rest : List Bool),
      groupSum (a :: b :: c :: d :: e :: f :: g :: h :: rest)
        = a.toNat * 128 + b.toNat * 64 + c.toNat * 32 + d.toNat * 16 + e.toNat * 8 + f.toNat * 4 + g.toNat * 2
          + h.toNat + groupSum rest)
    ∧ (∀ (bits : List Bool), bits.length < 8 → groupSum bits = ofBits bits * 2 ^ (8 - bits.length))
    ∧ ∀ (bits : List Bool), (groupSum bits + checksumOf bits) % 256 = 0 ∧ checksumOf bits < 256)
  ∧ (∀ (a b : Bool),
    endingOf ⟨false, BitVec.ofBool a ++ BitVec.ofBool b⟩ = .noResponse
    ∧ endingOf ⟨true, BitVec.ofBool a ++ BitVec.ofBool b⟩ =
        (if a then (if b then .noResponse else .checksumError) else (if b then .busy else .accept)))
  ∧ (∀ (status : LinkStatus) (bits : List Bool) (field : Nat → Nat → Nat) (clocked : Nat),
    (∀ first width, field first width = ofBits ((List.range width).map fun k => bits.getD (first + k) true)) →
    clocked = min 64 (field 12 7) →
    (readReportOf status bits = none ↔
      endingOf status ≠ .accept ∨ field 0 2 ≠ 0 ∨ 190 < field 2 8 ∨ field 10 2 = 3 ∨ 64 < field 12 7
        ∨ (groupSum ((List.range (19 + 7 * clocked)).map fun k => bits.getD k true)
            + field (19 + 7 * clocked) 8) % 256 ≠ 0)
    ∧ ∀ p, readReportOf status bits = some p →
        p.temp = (field 2 8 : Int) - 40
        ∧ p.cause = (if field 10 2 = 0 then .none else if field 10 2 = 1 then .thermal else .fault)
        ∧ p.faults = (List.range clocked).map fun k => ⟨field (19 + 7 * k) 6, bits.getD (25 + 7 * k) true⟩)
  ∧ (∀ (p : ReadReport) (status : LinkStatus) (tail : List Bool),
    -40 ≤ p.temp → p.temp ≤ 150 → p.faults.length ≤ 64 → (∀ f ∈ p.faults, f.zone < 64) →
    (endingOf status = .accept → readReportOf status (p.response ++ tail) = some p)
    ∧ (endingOf status ≠ .accept → readReportOf status (p.response ++ tail) = none))

/-- R122: the kinds and their codes, and the lengths of the messages with the two idle periods that follow.
R121, R122, R133, R188: a message in sequence: the start pulse of 4 low periods, kind, address, payload and checksum,
the released periods that are sampled, and the stop pulse of 2 or 3 low periods; its fields are sent most significant
bit first.
R138: an arbitration in sequence, as the JD2560 drives it and as the line reads: after the driver's low period three
low periods, the kind '111', the eight periods it samples, and the stop pulse; a period it drives low reads low. -/
def Obligations.MessagesRunInSequence : Prop :=
  ((∀ m : Message, m.kind = LinkKind.code m.linkKind)
    ∧ (LinkKind.code .level, LinkKind.code .latch, LinkKind.code .blank, LinkKind.code .config, LinkKind.code .read,
        LinkKind.code .poll, LinkKind.code .arbitration) = (0, 1, 2, 3, 4, 5, 7)
    ∧ (∀ (i addr : Nat) (tag : Tag) (codes : List Nat),
        Message.periods (.level i addr tag codes) .quiet none = 43 + 10 * codes.length
        ∧ Message.periods (.level i addr tag codes) .polled none = 44 + 10 * codes.length)
    ∧ (∀ (tag : Tag) (band : Nat), Message.periods (.latch tag band) .quiet none = 40
        ∧ Message.periods (.latch tag band) .polled none = 41)
    ∧ Message.periods .blank .quiet none = 28 ∧ Message.periods .blank .polled none = 29
    ∧ (∀ (i addr p c w h : Nat) (f : Bool), Message.periods (.config i addr p c w h f) .quiet none = 48
        ∧ Message.periods (.config i addr p c w h f) .polled none = 49)
    ∧ (∀ (i addr faults : Nat) (x : ReadAsker),
        Message.periods (.read i addr x) .quiet (some faults) = 55 + 7 * faults
        ∧ Message.periods (.read i addr x) .polled (some faults) = 56 + 7 * faults
        ∧ Message.periods (.read i addr x) .quiet none = 28 ∧ Message.periods (.read i addr x) .polled none = 29)
    ∧ Message.periods .poll .quiet none = 74 ∧ Message.periods .poll .polled none = 75
    ∧ arbitrationPeriods .quiet = 19 ∧ arbitrationPeriods .polled = 20)
  ∧ ((∀ (width n : Nat), n < 2 ^ width → (toBits width n).length = width ∧ ofBits (toBits width n) = n)
    ∧ (∀ (m : Message) (stop : LinkMode) (response : Option Nat) (body pulse : List Bool),
      pulse = (if stop = .quiet then [false, false] else [false, false, false]) →
      (∀ i addr tag codes, m = .level i addr tag codes →
        body = toBits 3 0 ++ toBits 6 addr ++ tag.epoch :: toBits 7 tag.count.toNat ++ toBits 7 codes.length
          ++ codes.flatMap (toBits 10)) →
      (∀ tag band, m = .latch tag band →
        body = toBits 3 1 ++ toBits 6 63 ++ tag.epoch :: toBits 7 tag.count.toNat ++ toBits 4 band) →
      (m = .blank → body = toBits 3 2 ++ toBits 6 63) →
      (∀ i addr p c w h f, m = .config i addr p c w h f →
        body = toBits 3 3 ++ toBits 6 addr ++ toBits 4 p ++ toBits 8 c ++ toBits 4 (w - 1) ++ toBits 4 (h - 1)) →
      (∀ i addr x, m = .read i addr x → body = toBits 3 4 ++ toBits 6 addr) →
      (m = .poll → body = toBits 3 5) →
      (m ≠ .poll →
        m.driven stop response =
          [false, false, false, false] ++ body ++ toBits 8 (checksumOf body) ++ [true, true, true]
            ++ List.replicate (match response with
              | some faults => 27 + 7 * faults
              | none => 0) true
            ++ pulse)
      ∧ (m = .poll →
        m.driven stop response = [false, false, false, false] ++ body ++ List.replicate 63 true ++ pulse)))
  ∧ (∀ (sampled : BitVec 8) (stop : LinkMode) (pulse : List Bool),
    pulse = (if stop = .quiet then [false, false] else [false, false, false]) →
    arbitrationDriven stop =
      [true, false, false, false, true, true, true] ++ List.replicate 8 true ++ pulse
    ∧ arbitrationLine sampled stop =
      [false, false, false, false, true, true, true]
        ++ ((List.range 8).map fun k => sampled.getMsbD k) ++ pulse
    ∧ ∀ k : Nat, (arbitrationDriven stop)[k]? = some false → (arbitrationLine sampled stop)[k]? = some false)

/-! ### Chapter 8: temperature, derating and events -/

/-- R144 to R146, R148, R149, R151, R152: a READ ending taken for a present entry, valid or invalid, and one dropped
because the entry was loaded or made absent; then what follows for the one that asked.
R106, R116, R126: what follows a READ: discovery goes on, a probe ends, an attention or rotation READ asks for
nothing more, and a withdrawn claim stops all of it.
What the line becomes at the ending follows the model's reading in log entry 11, its idle count log entry 12. -/
def Obligations.ReadEndingsUpdateTheThermalRecord : Prop :=
  (∀ (i addr resends : Nat) (asker : ReadAsker) (claim kept wide : Bool) (status : LinkStatus)
      (response : List Bool) (s : State) (l : Link),
    s.link.line = .message ⟨.read i addr asker, claim, resends, kept⟩ →
    l = { s.link with
      line := .idle, idlePeriods := 0
      lineMode := (if s.link.modeMoved then (if wide then .polled else .quiet) else s.link.mode)
      modeMoved := false, lineRate := s.link.rate } →
    (kept = false ∨ s.drivers.entryAt i = none →
      exec (.readEnding status response wide) s = .next (State.readFollows { s with link := l } i asker claim))
    ∧ ∀ e, kept = true → s.drivers.entryAt i = some e →
      ∃ u : State, exec (.readEnding status response wide) s = .next (u.readFollows i asker claim)
        ∧ (∀ j, j ≠ i → u.thermal.get .reset j = s.thermal.get .reset j)
        ∧ u = { s with
            link := l, thermal := u.thermal, events := u.events, zone := { s.zone with fault := u.zone.fault } }
        ∧ (∀ p, readReportOf status response = some p →
            u.thermal.get .reset i =
              { temp := p.temp, run := 0, cap := derateCap s.sup.derate p.temp false, cause := p.cause
                state := (alertMove (s.thermal.get .reset i).state p.temp s.sup.derate.ta).1 }
            ∧ (∀ z, u.zone.faulty z = true ↔ s.zone.faulty z = true
                ∨ ∃ f ∈ p.faults, f.zone < e.tile.width * e.tile.height
                  ∧ z = (e.tile.row + f.zone / e.tile.width) * s.zone.cols + (e.tile.col + f.zone % e.tile.width))
            ∧ u.events = s.events.postAll s.banks.active.tag
                (((alertMove (s.thermal.get .reset i).state p.temp s.sup.derate.ta).2.toList.map fun k =>
                    ⟨k, some i, none, some p.temp⟩)
                  ++ (p.faults.filter fun f => f.zone < e.tile.width * e.tile.height).map fun f =>
                    ⟨if f.short then .zoneShort else .zoneOpen, some i,
                      some ((e.tile.row + f.zone / e.tile.width) * s.zone.cols
                        + (e.tile.col + f.zone % e.tile.width)), none⟩))
        ∧ (readReportOf status response = none →
            u.thermal.get .reset i =
              { s.thermal.get .reset i with
                run := min 8 ((s.thermal.get .reset i).run + 1)
                cap := derateCap s.sup.derate (s.thermal.get .reset i).temp
                  (decide (8 ≤ (s.thermal.get .reset i).run + 1)) }
            ∧ u.zone.fault = s.zone.fault
            ∧ u.events =
                if (s.thermal.get .reset i).run + 1 = 8 then
                  s.events.post s.banks.active.tag .thermalAlert (some i) none none
                else s.events))
  ∧ (∀ (i : Nat) (asker : ReadAsker) (s : State),
    s.readFollows i asker false = s
    ∧ s.readFollows i .discovery true = s.discoveryNext
    ∧ s.readFollows i .probe true =
        { s with drivers := { s.drivers with probes := s.drivers.probes.filter fun j => j ≠ i } }
    ∧ s.readFollows i .attention true = s ∧ s.readFollows i .rotation true = s)

/-- R148: the derate cap, and its range.
R149: the table of the thermal states with its hysteresis of 5 °C.
R150: ACK ALERT, its checks in their order; it moves the thermal state alone. -/
def Obligations.ThermalStateAndCapFollowTheTemperature : Prop :=
  (∀ (d : DerateSetting) (t t' : Int), d.ts < d.te → d.capmin ≤ 4095 →
    derateCap d t true = d.capmin
    ∧ (t ≤ d.ts → derateCap d t false = 4095)
    ∧ (d.te ≤ t → derateCap d t false = d.capmin)
    ∧ (d.ts < t → t < d.te →
        (derateCap d t false : Int) = 4095 - (t - d.ts) * (4095 - d.capmin) / (d.te - d.ts))
    ∧ d.capmin ≤ derateCap d t false ∧ derateCap d t false ≤ 4095
    ∧ (t ≤ t' → derateCap d t' false ≤ derateCap d t false))
  ∧ (∀ (t ta : Int),
    (ta ≤ t → alertMove .normal t ta = (.alert, some .thermalAlert)
      ∧ alertMove .alert t ta = (.alert, some .thermalAlert)
      ∧ alertMove .acknowledged t ta = (.acknowledged, none))
    ∧ (ta - 5 ≤ t → t < ta → alertMove .normal t ta = (.normal, none) ∧ alertMove .alert t ta = (.alert, none)
      ∧ alertMove .acknowledged t ta = (.acknowledged, none))
    ∧ (t < ta - 5 → alertMove .normal t ta = (.normal, none)
      ∧ alertMove .alert t ta = (.normal, some .thermalNormal)
      ∧ alertMove .acknowledged t ta = (.normal, some .thermalNormal)))
  ∧ (∀ (i : Byte) (rest : List Byte) (s : State),
    (48 ≤ i.toNat →
      exec (.ackAlert (i :: rest)) s = .next { s with sup := { s.sup with lastResult := .range } })
    ∧ (i.toNat < 48 →
      s.drivers.entryAt i.toNat = none ∨ (s.thermal.get .reset i.toNat).state = .normal →
      exec (.ackAlert (i :: rest)) s = .next { s with sup := { s.sup with lastResult := .wrongState } })
    ∧ (i.toNat < 48 → s.drivers.entryAt i.toNat ≠ none → (s.thermal.get .reset i.toNat).state ≠ .normal →
      ∃ t, exec (.ackAlert (i :: rest)) s = .next t
        ∧ (∀ j, t.thermal.get .reset j =
            if j = i.toNat then { s.thermal.get .reset i.toNat with state := .acknowledged }
            else s.thermal.get .reset j)
        ∧ t = { s with thermal := t.thermal, sup := { s.sup with lastResult := .ok } }))

/-- R154, R155: a post coalesces, is added at the tail, or is dropped with EVENT-OVERFLOW.
R156, R174: POP EVENT removes the oldest record and fixes its copy, or a record of kind NONE. -/
def Obligations.PostsCoalesceAreAddedOrDropped : Prop :=
  (∀ (q : EventQueue) (tag : Tag) (k : EventKind) (driver zone : Option Nat) (value : Option Int),
    (∀ more, q.postAll tag [] = q
      ∧ q.postAll tag (⟨k, driver, zone, value⟩ :: more) = (q.post tag k driver zone value).postAll tag more)
    ∧ (∀ before r after, q.records = before ++ r :: after → r.kind = k → r.driver = driver → r.zone = zone →
      (∀ x ∈ before ++ after, ¬(x.kind = k ∧ x.driver = driver ∧ x.zone = zone)) →
      q.post tag k driver zone value =
        { q with records := before ++ { r with count := min 255 (r.count + 1), value := value } :: after })
    ∧ ((∀ x ∈ q.records, ¬(x.kind = k ∧ x.driver = driver ∧ x.zone = zone)) →
      (q.records.length < 32 →
        q.post tag k driver zone value = { q with records := q.records ++ [⟨k, driver, zone, value, 1, tag⟩] })
      ∧ (32 ≤ q.records.length → q.post tag k driver zone value = { q with overflow := true }))
    ∧ (q.records.length ≤ 32 → (q.post tag k driver zone value).records.length ≤ 32)
    ∧ ((q.records.Pairwise fun a b => ¬(a.kind = b.kind ∧ a.driver = b.driver ∧ a.zone = b.zone)) →
      (q.post tag k driver zone value).records.Pairwise
        fun a b => ¬(a.kind = b.kind ∧ a.driver = b.driver ∧ a.zone = b.zone)))
  ∧ (∀ (params : List Byte) (s : State),
    (s.events.records = [] →
      exec (.popEvent params) s = .next
        { s with sup := { s.sup with lastResult := .ok, readPointer := some (.event none) } })
    ∧ ∀ r rest, s.events.records = r :: rest →
      exec (.popEvent params) s = .next
        { s with
          events := { s.events with records := rest }
          sup := { s.sup with lastResult := .ok, readPointer := some (.event (some r)) } })

/-! ### Chapters 9 and 10: the ports and the operating states -/

/-- R165, R166, R167: READ MAP's answer in each of its five cases, copied in the event and nothing else changed.
R166, R174, R185, R186: the bytes of a map answer spell its tag, its status and its entries on each port, whatever the
other port holds, and zeros after them. -/
def Obligations.MapReadsCopyTheBankTheyName : Prop :=
  (∀ (bank : Byte) (first count : BitVec 16) (s : State), ∃ a,
    exec (.pictureReadMap bank first count false) s = .next { s with picture := { s.picture with frame := .readMap a } }
    ∧ (s.sup.op = .safe → a = ⟨some .blanked, ⟨false, 0⟩, []⟩)
    ∧ (s.sup.op ≠ .safe →
      (¬(first.toNat % 4096 < s.zone.cols * s.zone.rows ∧ 1 ≤ count.toNat ∧ count.toNat ≤ 2560) →
        a = ⟨none, ⟨false, 0⟩, []⟩)
      ∧ (first.toNat % 4096 < s.zone.cols * s.zone.rows → 1 ≤ count.toNat → count.toNat ≤ 2560 →
        (bank.getLsbD 0 = false →
          a.status = some .valid ∧ a.tag = s.banks.active.tag ∧ a.entries.length = count.toNat
          ∧ ∀ k, k < count.toNat → ∃ r,
              r = s.banks.active.zone ((first.toNat % 4096 + k) % (s.zone.cols * s.zone.rows))
              ∧ a.entries[k]? = some ⟨r.level, r.held, r.fault, r.focus, r.inactive⟩)
        ∧ (bank.getLsbD 0 = true → s.banks.pend = .solved ∨ s.banks.pend = .shipped →
          a.status = some .valid ∧ a.tag = s.banks.pendingBank.tag ∧ a.entries.length = count.toNat
          ∧ ∀ k, k < count.toNat → ∃ r,
              r = s.banks.pendingBank.zone ((first.toNat % 4096 + k) % (s.zone.cols * s.zone.rows))
              ∧ a.entries[k]? = some ⟨r.level, r.held, r.fault, r.focus, r.inactive⟩)
        ∧ (bank.getLsbD 0 = true → s.banks.pend = .empty ∨ s.banks.pend = .solving →
          a = ⟨some .stale, ⟨false, 0⟩, List.replicate count.toNat ⟨0, false, false, false, false⟩⟩))))
  ∧ (∀ (a : MapAnswer) (s u : State) (sent : Nat → Byte), (∀ e ∈ a.entries, e.level ≤ 4095) →
    (s.picture.frame = .readMap a ∧ ∀ i, sent i = s.pictureByte u i)
      ∨ (s.sup.readPointer = some (.map a) ∧ ∀ i, sent i = s.supervisorByte i) →
    (sent 0).toNat = a.tag.epoch.toNat * 128 + a.tag.count.toNat
    ∧ sent 1 = (match a.status with
        | some .valid => 1
        | some .stale => 2
        | some .blanked => 3
        | none => 0)
    ∧ (∀ k e, a.entries[k]? = some e →
        (sent (2 + 2 * k)).toNat * 256 + (sent (3 + 2 * k)).toNat
          = e.level * 16 + e.held.toNat * 8 + e.fault.toNat * 4 + e.focus.toNat * 2 + e.inactive.toNat)
    ∧ ∀ i, 2 + 2 * a.entries.length ≤ i → sent i = 0)

/-- R155, R168, R169, R174, R175: each port's READ STATUS takes its record and clears its own copy of the flags.
That the supervisor's record holds no pending state is the model's choice between R175 and R73 (log entry 23).
R158, R170, R171: the output pins follow the demand store, the pending state, the event queue and SAFE; while RSTN is
low every output is as R189's table has it. -/
def Obligations.ReadStatusClearsItsOwnFlags : Prop :=
  (∀ (params : List Byte) (s : State),
    exec (.pictureReadStatus false) s = .next
      { s with picture :=
        { flags := .none
          frame := .readStatus
            { storeOpen := s.zone.storeOpen, pend := s.banks.pend, tag := s.banks.active.tag, tf := s.timing.tf
              op := s.sup.op, flags := s.picture.flags } } }
    ∧ exec (.supervisorReadStatus params) s = .next
      { s with
        events := { s.events with overflow := false }
        sup :=
          { s.sup with
            flags := .none, lastResult := .ok
            readPointer := some (.status
              { op := s.sup.op, lastResult := s.sup.lastResult, flags := s.sup.flags, overflow := s.events.overflow
                tag := s.banks.active.tag, tf := s.timing.tf
                reachable := ((List.range 48).filter fun i =>
                  match s.drivers.entryAt i with
                  | some e => e.state = .reachable ∨ e.state = .failing
                  | none => False).length
                lineMode := s.link.lineMode, latch := s.sup.latch }) } })
  ∧ (∀ (s fall u : State) (m : Moment),
    (m.rstn = true →
      (s.pins fall u m).prdy = (if s.zone.storeOpen then .high else .low)
      ∧ (s.pins fall u m).mapRdy = (if s.banks.pend = .solved ∨ s.banks.pend = .shipped then .high else .low)
      ∧ (s.pins fall u m).salert = (if s.events.records ≠ [] ∨ s.sup.op = .safe then .low else .released))
    ∧ (m.rstn = false →
      s.pins fall u m =
        { sdo := .released, scl := .released, sda := .released, salert := .released, dld := .released, dlc := .low
          prdy := .low, mapRdy := .low }))

/-- R168, R174, R185, R186, R187: the bytes of each record, and zeros after it: READ STATUS on both ports, POP EVENT,
READ DRIVER, READ POWER and READ GAIN; while the read pointer is none every byte is 0.
R160: the picture port sends zeros but for the answer, which begins after the header, changes data out at each falling
clock edge alone, most significant bit first, and releases it while chip select is high.
R172: the port answers to its address and no other; it acknowledges its address byte in either direction and every byte
of a write transaction, which alone brings a command, and in a read transaction it sends the bytes asked for; SDA
changes only while SCL is low. -/
def Obligations.RecordsAreSentByteByByte : Prop :=
  (∀ (r : PictureStatus) (s u : State), s.picture.frame = .readStatus r →
    (s.pictureByte u 0).toNat =
        (!r.storeOpen).toNat * 128
          + (match r.pend with
            | .empty => 0
            | .solving => 1
            | .solved => 2
            | .shipped => 3) * 32
          + (match r.op with
            | .standby => 0
            | .discovery => 1
            | .run => 2
            | .safe => 3) * 8
    ∧ (s.pictureByte u 1).toNat = r.tag.epoch.toNat * 128 + r.tag.count.toNat
    ∧ (s.pictureByte u 2).toNat * 65536 + (s.pictureByte u 3).toNat * 256 + (s.pictureByte u 4).toNat
        = r.tf % 16777216
    ∧ (s.pictureByte u 5).toNat =
        r.flags.lateWrite.toNat * 64 + r.flags.closeRefused.toNat * 32 + r.flags.superseded.toNat * 16
          + r.flags.lateCommit.toNat * 8 + r.flags.runtFs.toNat * 4 + r.flags.flushed.toNat * 2
          + r.flags.gainLocked.toNat
    ∧ ∀ i, 6 ≤ i → s.pictureByte u i = 0)
  ∧ (∀ (s : State) (sent : Nat → Nat), (∀ i, sent i = (s.supervisorByte i).toNat) →
    (s.sup.readPointer = none → ∀ i, sent i = 0)
    ∧ (∀ r, s.sup.readPointer = some (.status r) →
      sent 0 = (match r.op with
        | .standby => 0
        | .discovery => 1
        | .run => 2
        | .safe => 3)
      ∧ sent 1 = (match r.lastResult with
        | .ok => 0
        | .wrongState => 1
        | .range => 2
        | .locked => 3
        | .unknown => 4)
      ∧ sent 2 = 0
      ∧ sent 3 =
          r.flags.lateWrite.toNat * 128 + r.flags.closeRefused.toNat * 64 + r.flags.superseded.toNat * 32
            + r.flags.lateCommit.toNat * 16 + r.flags.runtFs.toNat * 8 + r.flags.flushed.toNat * 4
            + r.flags.gainLocked.toNat * 2 + r.overflow.toNat
      ∧ sent 4 = r.tag.epoch.toNat * 128 + r.tag.count.toNat
      ∧ sent 5 * 65536 + sent 6 * 256 + sent 7 = r.tf % 16777216
      ∧ sent 8 = r.reachable % 256
      ∧ sent 9 = (if r.lineMode = .polled then 1 else 0)
      ∧ sent 10 = (match r.latch with
        | .clear => 0
        | .held => 1
        | .released => 2)
      ∧ ∀ i, 11 ≤ i → sent i = 0)
    ∧ (s.sup.readPointer = some (.event none) → ∀ i, sent i = 0)
    ∧ (∀ r, s.sup.readPointer = some (.event (some r)) →
      sent 0 = (match r.kind with
        | .driverUnreachable => 1
        | .driverRecovered => 2
        | .thermalAlert => 3
        | .thermalNormal => 4
        | .zoneOpen => 5
        | .zoneShort => 6
        | .signalLoss => 7
        | .signalRestored => 8
        | .kill => 9
        | .discoveryEmpty => 10)
      ∧ sent 1 = r.driver.isSome.toNat * 4 + r.zone.isSome.toNat * 2 + r.value.isSome.toNat
      ∧ sent 2 = r.driver.getD 0 % 256 ∧ sent 3 * 256 + sent 4 = r.zone.getD 0 % 65536
      ∧ (r.value = none → sent 5 = 0) ∧ (∀ x, r.value = some x → sent 5 = (x + 40).toNat % 256)
      ∧ sent 6 = r.count % 256 ∧ sent 7 = r.tag.epoch.toNat * 128 + r.tag.count.toNat
      ∧ ∀ i, 8 ≤ i → sent i = 0)
    ∧ (∀ x, s.sup.readPointer = some (.driver none x) → ∀ i, sent i = 0)
    ∧ (∀ e x, s.sup.readPointer = some (.driver (some e) x) →
      sent 0 = (match e.state with
        | .unprobed => 1
        | .reachable => 2
        | .failing => 3
        | .unreachable => 4)
      ∧ sent 1 = e.addr % 256 ∧ sent 2 = e.tile.col % 256 ∧ sent 3 = e.tile.row % 256
      ∧ sent 4 = e.tile.width % 256 ∧ sent 5 = e.tile.height % 256 ∧ sent 6 = e.domain.val
      ∧ sent 7 = e.pwm % 256 ∧ sent 8 = e.current % 256 ∧ sent 9 = e.misses % 256 ∧ sent 10 = e.attempts % 256
      ∧ sent 11 = (x.temp + 40).toNat % 256 ∧ sent 12 = x.run % 256 ∧ sent 13 * 256 + sent 14 = x.cap % 65536
      ∧ sent 15 = (match x.state with
        | .normal => 0
        | .alert => 1
        | .acknowledged => 2)
      ∧ sent 16 = (match x.cause with
        | .none => 0
        | .thermal => 1
        | .fault => 2)
      ∧ ∀ i, 17 ≤ i → sent i = 0)
    ∧ (∀ p, s.sup.readPointer = some (.power p) →
      (∀ d : Domain,
        sent (10 * d.val) * 65536 + sent (10 * d.val + 1) * 256 + sent (10 * d.val + 2)
            = (p.get d).levelSum % 16777216
        ∧ sent (10 * d.val + 3) * 256 + sent (10 * d.val + 4) = (p.get d).kn % 65536
        ∧ sent (10 * d.val + 5) * 256 + sent (10 * d.val + 6) = (p.get d).kf % 65536
        ∧ sent (10 * d.val + 7) * 65536 + sent (10 * d.val + 8) * 256 + sent (10 * d.val + 9)
            = (p.get d).budget % 16777216)
      ∧ ∀ i, 40 ≤ i → sent i = 0)
    ∧ ∀ g, s.sup.readPointer = some (.gains g) →
      (∀ (k : Nat) (v : Gain), g[k]? = some v → sent (2 * k) * 256 + sent (2 * k + 1) = v.toNat)
      ∧ ∀ i, 2 * g.length ≤ i → sent i = 0)
  ∧ (∀ (s u : State) (rest : List Byte) (m : Moment),
    s.dataOut u [] = 0
    ∧ (∀ c : Byte, c ≠ 0x41 → c ≠ 0x4F → c ≠ 0x62 → s.dataOut u (c :: rest) = 0)
    ∧ s.dataOut u (0x4F :: rest) = s.pictureByte u rest.length
    ∧ (∀ c : Byte, c = 0x41 ∨ c = 0x62 →
        s.dataOut u (c :: rest) = if rest.length < 5 then 0 else s.pictureByte u (rest.length - 5))
    ∧ (m.csn = true → s.sdo u m = .released)
    ∧ (∀ (received : List Byte) (tail : List Bool), tail.length < 8 →
        s.sdo u { m with csn := false, sck := false, frame := received.flatMap byteBits ++ tail } =
          if (s.dataOut u received).getMsbD tail.length then .high else .low)
    ∧ ∀ (bits : List Bool) (b : Bool),
        s.sdo u { m with csn := false, sck := true, frame := bits ++ [b] } =
            s.sdo u { m with csn := false, sck := false, frame := bits }
        ∧ (m.rstn = true →
          (u.pins s u { m with csn := false, sck := true, frame := bits ++ [b] }).sdo =
              s.sdo u { m with csn := false, sck := false, frame := bits }
          ∧ (s.pins u u { m with scl := false, bus := bits }).sda = s.sda bits
          ∧ (s.pins u u { m with scl := true, bus := bits ++ [b] }).sda = s.sda bits))
  ∧ (∀ (s : State) (a b : Byte) (ack : Bool) (sent : List (Byte × Bool)) (tail : List Bool),
    (s.acknowledges a = true ↔ a.toNat / 2 = 0x38 + s.sup.straps.toNat)
    ∧ (tail.length < 9 → busBytes (busBits sent ++ tail) = sent)
    ∧ (tail.length < 9 →
      busCommands s.supervisorAddress (busBits ((a, ack) :: sent) ++ tail) =
        if s.acknowledges a = true ∧ a.toNat % 2 = 0 then
          match sent.map Prod.fst with
          | [] => []
          | c :: params => [supervisorCommand c params]
        else [])
    ∧ (s.acknowledges a = false → s.sda (byteBits a ++ tail) = .released)
    ∧ (s.acknowledges a = true →
      s.sda (byteBits a) = .low
      ∧ (a.toNat % 2 = 0 →
        s.sda (busBits ((a, false) :: sent) ++ byteBits b) = .low
        ∧ (tail.length < 8 → s.sda (busBits ((a, false) :: sent) ++ tail) = .released))
      ∧ (a.toNat % 2 = 1 →
        s.sda (busBits ((a, false) :: sent) ++ byteBits b) = .released
        ∧ (tail.length < 8 →
          s.sda (busBits ((a, false) :: sent) ++ tail) =
            if (∀ x ∈ sent, x.2 = false) ∧ (s.supervisorByte sent.length).getMsbD tail.length = false then .low
            else .released))))

/-- R62, R119, R159, R174, R176: READ DRIVER, READ MAP and READ POWER of the supervisor port fix their copies, and a
refused one leaves the read pointer.
R160, R173: a command byte that names no command: the picture frame is ignored to its end, the supervisor's last
result is UNKNOWN. -/
def Obligations.SupervisorReadsFixTheirCopies : Prop :=
  (∀ (i a b c d : Byte) (rest : List Byte) (s : State),
    exec (.readPower rest) s = .next
      { s with sup := { s.sup with lastResult := .ok, readPointer := some (.power s.banks.active.domains) } }
    ∧ (48 ≤ i.toNat →
      exec (.readDriver (i :: rest)) s = .next { s with sup := { s.sup with lastResult := .range } })
    ∧ (i.toNat < 48 →
      exec (.readDriver (i :: rest)) s = .next
        { s with sup := { s.sup with
            lastResult := .ok
            readPointer := some (.driver (s.drivers.entryAt i.toNat) (s.thermal.get .reset i.toNat)) } })
    ∧ (s.sup.op = .safe →
      exec (.supervisorReadMap (a :: b :: c :: d :: rest)) s = .next
        { s with sup := { s.sup with
            lastResult := .ok
            readPointer := some (.map ⟨some .blanked, ⟨false, 0⟩,
              List.replicate (be16 c d) ⟨0, false, false, false, false⟩⟩) } })
    ∧ (s.sup.op ≠ .safe → be16 a b < s.zone.cols * s.zone.rows → 1 ≤ be16 c d → be16 c d ≤ 2560 →
      exec (.supervisorReadMap (a :: b :: c :: d :: rest)) s = .next
        { s with sup := { s.sup with
            lastResult := .ok
            readPointer := some (.map ⟨some .valid, s.banks.active.tag,
              (List.range (be16 c d)).map fun k =>
                ZoneRecord.entry (s.banks.active.zone ((be16 a b + k) % (s.zone.cols * s.zone.rows)))⟩) } })
    ∧ (s.sup.op ≠ .safe → ¬(be16 a b < s.zone.cols * s.zone.rows ∧ 1 ≤ be16 c d ∧ be16 c d ≤ 2560) →
      exec (.supervisorReadMap (a :: b :: c :: d :: rest)) s = .next
        { s with sup := { s.sup with lastResult := .range } }))
  ∧ (∀ (c : Byte) (s : State),
    ((Instr.pictureUnknownCommand c).wellFormed = true →
      exec (.pictureUnknownCommand c) s = .next { s with picture := { s.picture with frame := .nothing } }
      ∧ ∀ t u i, exec (.pictureUnknownCommand c) s = .next t → t.pictureByte u i = 0)
    ∧ ((Instr.supervisorUnknownCommand c).wellFormed = true →
      exec (.supervisorUnknownCommand c) s = .next { s with sup := { s.sup with lastResult := .unknown } }))

/-- R49: SET BUDGET clamps and stores both values of the named domain, or refuses a domain above 3.
R87, R147, R177: SET SLEW, SET DERATE and SET SCAN store their values whole, or refuse with RANGE.
R173: a command with fewer parameters than it needs is refused with RANGE where no earlier check fails; a wrong state
(R2, R102, R116) and an occupied slot (R16) are found before it.
Where a missing byte counts as a failed check is the model's reading (log entry 8). -/
def Obligations.SettingsAreStoredClampedOrRefused : Prop :=
  (∀ (d a b c q r : Byte) (rest : List Byte) (s : State),
    (4 ≤ d.toNat →
      exec (.setBudget (d :: a :: b :: c :: q :: r :: rest)) s = .next
        { s with sup := { s.sup with lastResult := .range } })
    ∧ (d.toNat < 4 →
      ∃ t, exec (.setBudget (d :: a :: b :: c :: q :: r :: rest)) s = .next t
        ∧ (∀ x : Domain, t.sup.budgets.get x =
            if x.val = d.toNat then
              { budget := min 10483200 (a.toNat * 65536 + b.toNat * 256 + c.toNat)
                recovery := max 1 (min 4096 (q.toNat * 256 + r.toNat)) }
            else s.sup.budgets.get x)
        ∧ t = { s with sup := { s.sup with budgets := t.sup.budgets, lastResult := .ok } }))
  ∧ (∀ (n a b c d e : Byte) (rest : List Byte) (s u : State),
    u = { s with sup := { s.sup with lastResult := .range } } →
    (exec (.setSlew (a :: b :: c :: d :: rest)) s =
      if be16 a b ≤ 4095 ∧ be16 c d ≤ 4095 then
        .next { s with sup := { s.sup with rise := be16 a b, fall := be16 c d, lastResult := .ok } }
      else .next u)
    ∧ (exec (.setDerate (a :: b :: c :: d :: e :: rest)) s =
      if a.toNat ≤ 190 ∧ b.toNat ≤ 190 ∧ e.toNat ≤ 190 ∧ be16 c d ≤ 4095 ∧ a.toNat < b.toNat then
        .next { s with sup := { s.sup with
          derate :=
            { ts := (a.toNat : Int) - 40, te := (b.toNat : Int) - 40, capmin := be16 c d
              ta := (e.toNat : Int) - 40 }
          lastResult := .ok } }
      else .next u)
    ∧ (exec (.setScan (n :: a :: b :: c :: d :: rest)) s =
      if 1 ≤ n.toNat ∧ n.toNat ≤ 16 ∧ be16 a b ≤ 8000 ∧ be16 c d ≤ 2000 then
        .next { s with sup := { s.sup with
          scan := { bands := n.toNat, base := be16 a b, step := be16 c d }, lastResult := .ok } }
      else .next u))
  ∧ (∀ (p : List Byte) (s u : State), u = { s with sup := { s.sup with lastResult := .range } } →
    (p.length < 6 → exec (.setBudget p) s = .next u)
    ∧ (p.length < 4 → exec (.setSlew p) s = .next u ∧ exec (.clearFault p) s = .next u)
    ∧ (p.length < 5 → exec (.setDerate p) s = .next u ∧ exec (.setScan p) s = .next u
      ∧ exec (.zoneEnable p) s = .next u ∧ exec (.supervisorReadGain p) s = .next u)
    ∧ (p.length < 4 → exec (.supervisorReadMap p) s = .next u)
    ∧ (p.length < 3 → exec (.setLink p) s = .next u ∧ exec (.setLoss p) s = .next u
      ∧ exec (.supervisorWriteGain p) s = .next u)
    ∧ (p = [] → exec (.selectGainSet p) s = .next u ∧ exec (.lockRange p) s = .next u
      ∧ exec (.ackAlert p) s = .next u ∧ exec (.readDriver p) s = .next u
      ∧ (s.sup.op = .run → exec (.probe p) s = .next u))
    ∧ (∀ slot rest, p = slot :: rest → p.length < 5 →
      (slot.toNat < 8 → s.zone.lockAt slot.toNat ≠ none →
        exec (.lockRange p) s = .next { s with sup := { s.sup with lastResult := .locked } })
      ∧ (8 ≤ slot.toNat ∨ s.zone.lockAt slot.toNat = none → exec (.lockRange p) s = .next u))
    ∧ (∀ i fields, p = i :: 1 :: fields → p.length < 10 → s.sup.op = .standby →
      exec (.loadDriver p) s = .next u)
    ∧ (¬(s.sup.op = .standby ∧ s.solver.phase = .idle) →
      exec (.setGrid p) s = .next { s with sup := { s.sup with lastResult := .wrongState } })
    ∧ (s.sup.op ≠ .run → exec (.probe p) s = .next { s with sup := { s.sup with lastResult := .wrongState } })
    ∧ (p.length < 2 → s.sup.op = .standby →
      (s.solver.phase = .idle → exec (.setGrid p) s = .next u) ∧ exec (.loadDriver p) s = .next u))

/-- R6: only a value of a WRITE DEMAND, SET GRID and power-on reset change a demand.
R77: the ACTIVE tag becomes the pending tag at a commit of a SHIPPED map and 0:0 at the two resets, and changes
at no other step. A commit comes with a frame start: an FSYNC edge, or one of the device's own (a loss timer expiry, an
internal frame start, a SET LOSS that the timer has reached, R80); it exchanges the banks, closes the gate and leaves
the pending state EMPTY, or SOLVING where a loss solve starts in the same event.
R169: each flag is set by its own commands alone, and in both copies. A flag of either copy stays set over every step
but that copy's READ STATUS and the two resets, and EVENT-OVERFLOW likewise (R155), which only a command that posts
sets, with the queue full.
Section 10.3, R50, R80, R87, R134, R147, R177: every setting is kept by every step but its own command and
power-on reset. -/
def Obligations.EachCommandLeavesTheRestAlone : Prop :=
  (∀ (c : Instr) (s t : State), exec c s = .next t →
    (∀ v, c ≠ .demandValue v) → (∀ p, c ≠ .setGrid p) → (∀ a h k f, c ≠ .powerOnReset a h k f) →
    ∀ z, t.zone.demandAt z = s.zone.demandAt z)
  ∧ (∀ (c : Instr) (s t : State), exec c s = .next t →
    t.banks.active.tag = s.banks.active.tag
    ∨ (s.banks.pend = .shipped ∧ t.banks.active.tag = s.banks.pendingBank.tag
        ∧ t.banks.pendingBank.zones = s.banks.active.zones ∧ t.banks.pendingBank.domains = s.banks.active.domains
        ∧ t.timing.gateOpen = false
        ∧ ((∃ time held high, c = .fsyncFallingEdge time held high) ∧ t.banks.pend = .empty
          ∨ (c = .lossTimerExpiry ∨ c = .internalFrameStart ∨ ∃ p, c = .setLoss p)
            ∧ (t.banks.pend = .empty ∨ t.banks.pend = .solving)))
    ∨ (t.banks.active.tag = ⟨false, 0⟩
        ∧ ((∃ p, c = .softReset p) ∨ ∃ a h k f, c = .powerOnReset a h k f)))
  ∧ (∀ (c : Instr) (s t : State), exec c s = .next t →
    (∀ p, c ≠ .softReset p) → (∀ a h k f, c ≠ .powerOnReset a h k f) →
    (c ≠ .pictureReadStatus false →
      ∀ f, s.picture.flags.set f = s.picture.flags → t.picture.flags.set f = t.picture.flags)
    ∧ ((∀ p, c ≠ .supervisorReadStatus p) →
        (∀ f, s.sup.flags.set f = s.sup.flags → t.sup.flags.set f = t.sup.flags)
        ∧ (s.events.overflow = true → t.events.overflow = true)))
  ∧ (∀ (c : Instr) (s t : State), exec c s = .next t →
    (∀ f, (s.picture.flags.set f ≠ s.picture.flags ∧ t.picture.flags.set f = t.picture.flags)
        ∨ (s.sup.flags.set f ≠ s.sup.flags ∧ t.sup.flags.set f = t.sup.flags) →
      t.picture.flags.set f = t.picture.flags ∧ t.sup.flags.set f = t.sup.flags
      ∧ match f with
        | .lateWrite => ∃ p, c = .writeDemand p false
        | .closeRefused => ∃ record, c = .closeFrame record false
        | .superseded =>
          (∃ record, c = .closeFrame record false)
            ∨ c = .lossTimerExpiry ∨ c = .internalFrameStart ∨ ∃ p, c = .setLoss p
        | .lateCommit | .flushed =>
          (∃ time held high, c = .fsyncFallingEdge time held high)
            ∨ c = .lossTimerExpiry ∨ c = .internalFrameStart ∨ ∃ p, c = .setLoss p
        | .runtFs => ∃ time held high, c = .fsyncFallingEdge time held high
        | .gainLocked => ∃ w, c = .pictureGainValue w)
    ∧ (s.events.overflow = false → t.events.overflow = true →
      32 ≤ t.events.records.length
      ∧ ((∃ time held high, c = .fsyncFallingEdge time held high)
        ∨ c = .lossTimerExpiry ∨ c = .internalFrameStart ∨ (∃ p, c = .setLoss p)
        ∨ (∃ held, c = .killFallingEdge held) ∨ (∃ p, c = .start p) ∨ (∃ p, c = .rearm p)
        ∨ (∃ status wide, c = .discoveryConfigEnding status wide)
        ∨ (∃ status wide, c = .probeConfigEnding status wide)
        ∨ ∃ status response wide, c = .readEnding status response wide)))
  ∧ (∀ (c : Instr) (s t : State), exec c s = .next t → (∀ a h k f, c ≠ .powerOnReset a h k f) →
    ((∀ p, c ≠ .setBudget p) → t.sup.budgets = s.sup.budgets)
    ∧ ((∀ p, c ≠ .setSlew p) → t.sup.rise = s.sup.rise ∧ t.sup.fall = s.sup.fall)
    ∧ ((∀ p, c ≠ .setDerate p) → t.sup.derate = s.sup.derate)
    ∧ ((∀ p, c ≠ .setScan p) → t.sup.scan = s.sup.scan)
    ∧ ((∀ p, c ≠ .setLoss p) → t.sup.loss = s.sup.loss)
    ∧ ((∀ p, c ≠ .setLink p) →
        t.link.rate = s.link.rate ∧ t.link.mode = s.link.mode ∧ t.link.pollInterval = s.link.pollInterval)
    ∧ ((∀ p, c ≠ .selectGainSet p) → t.zone.liveSet = s.zone.liveSet)
    ∧ ((∀ p, c ≠ .setGrid p) → t.zone.cols = s.zone.cols ∧ t.zone.rows = s.zone.rows)
    ∧ t.sup.straps = s.sup.straps)

/-- R46, R75, R86, R99, R113, R117, R126, R127, R132, R180: STOP in each operating state.
R46, R75, R86, R99, R108, R113, R117, R126, R127, R132, R154, R181: a KILL falling edge enters SAFE from any
state; a pulse under four reference periods does nothing, nor an edge that brings no new level (R189).
That a claim is withdrawn from all but a BLANK, and one BLANK is left queued, is the model's reading (log entry 19).
The four periods of the filter are a number the command carries, the model's reading (log entry 7). -/
def Obligations.StopAndKillEndEveryOperation : Prop :=
  (∀ (params : List Byte) (s : State),
    (s.sup.op = .safe →
      exec (.stop params) s = .next { s with sup := { s.sup with lastResult := .wrongState } })
    ∧ (s.sup.op = .standby → exec (.stop params) s = .next { s with sup := { s.sup with lastResult := .ok } })
    ∧ (s.sup.op = .discovery ∨ s.sup.op = .run →
      ∃ t, exec (.stop params) s = .next t
        ∧ t.sup = { s.sup with op := .standby, lastResult := .ok }
        ∧ t.banks = { s.banks with pend := .empty }
        ∧ t.solver = { s.solver with voided := s.solver.voided || decide (s.solver.phase ≠ .idle) }
        ∧ t.timing.schedule = none ∧ t.timing.gateOpen = true ∧ t.timing.tf = s.timing.tf
        ∧ t.timing.hold = s.timing.hold ∧ t.timing.fsync = s.timing.fsync
        ∧ (s.sup.op = .run →
            t.timing.edgeRef = none ∧ t.timing.lossTimer = none ∧ t.timing.freeRun = .off)
        ∧ t.drivers.round = none ∧ t.drivers.discovery = none ∧ t.drivers.probes = []
        ∧ t.drivers.rotation = s.drivers.rotation
        ∧ (∀ i, t.drivers.entryAt i =
            (s.drivers.entryAt i).map fun e => { e with attempts := 0, failed := false })
        ∧ t.link.queue = [.blank] ∧ t.link.pollTimer = none
        ∧ (∀ m, s.link.line = .message m →
            t.link.line = .message { m with claim := m.claim && decide (m.msg = .blank) })
        ∧ ((∀ m, s.link.line ≠ .message m) → t.link.line = s.link.line)
        ∧ (∀ m, s.link.resend = some m → t.link.resend = if m.msg = .blank then some m else none)
        ∧ (s.link.resend = none → t.link.resend = none)
        ∧ t.link = { s.link with
            line := t.link.line, queue := t.link.queue, resend := t.link.resend, pollTimer := none }
        ∧ t.zone = s.zone ∧ t.thermal = s.thermal ∧ t.events = s.events ∧ t.picture = s.picture
        ∧ t.now = s.now))
  ∧ (∀ (held : Nat) (s : State),
    (held < 4 ∨ s.sup.kill = false → exec (.killFallingEdge held) s = .next s)
    ∧ (4 ≤ held → s.sup.kill = true →
      ∃ t, exec (.killFallingEdge held) s = .next t
        ∧ t.sup =
            { s.sup with
              op := .safe, latch := .held, kill := false
              resume := if s.sup.op = .safe then s.sup.resume
                else if s.sup.op = .standby then .standby else .discovery }
        ∧ t.banks = { s.banks with pend := .empty }
        ∧ t.solver = { s.solver with voided := s.solver.voided || decide (s.solver.phase ≠ .idle) }
        ∧ t.timing.schedule = none ∧ t.timing.gateOpen = true ∧ t.timing.tf = s.timing.tf
        ∧ t.timing.hold = s.timing.hold ∧ t.timing.fsync = s.timing.fsync
        ∧ (s.sup.op = .run →
            t.timing.edgeRef = none ∧ t.timing.lossTimer = none ∧ t.timing.freeRun = .off)
        ∧ t.drivers.round = none ∧ t.drivers.discovery = none ∧ t.drivers.probes = []
        ∧ t.drivers.rotation = s.drivers.rotation
        ∧ (∀ i, t.drivers.entryAt i =
            (s.drivers.entryAt i).map fun e => { e with attempts := 0, failed := false })
        ∧ t.link.queue = [.blank] ∧ t.link.pollTimer = none
        ∧ (∀ m, s.link.line = .message m →
            t.link.line = .message { m with claim := m.claim && decide (m.msg = .blank) })
        ∧ ((∀ m, s.link.line ≠ .message m) → t.link.line = s.link.line)
        ∧ (∀ m, s.link.resend = some m → t.link.resend = if m.msg = .blank then some m else none)
        ∧ (s.link.resend = none → t.link.resend = none)
        ∧ t.link = { s.link with
            line := t.link.line, queue := t.link.queue, resend := t.link.resend, pollTimer := none }
        ∧ t.events = s.events.post s.banks.active.tag .kill none none none
        ∧ t.salertLow = true
        ∧ t.zone = s.zone ∧ t.thermal = s.thermal ∧ t.picture = s.picture ∧ t.now = s.now))

/-- R71, R105, R107, R181, R182: KILL's rising edge releases a HELD latch in SAFE, and REARM leaves SAFE once it is
RELEASED, with ACTIVE at its reset contents and its tag kept.
The four periods of the filter are a number the command carries, the model's reading (log entry 7). -/
def Obligations.RearmLeavesSafeOnceReleased : Prop :=
  ∀ (params : List Byte) (held : Nat) (s u : State),
    u = { s with
      banks := { s.banks with active := Bank.reset s.banks.active.tag }
      sup := { s.sup with lastResult := .ok, latch := .clear, op := .standby } } →
    (held < 4 ∨ s.sup.kill = true → exec (.killRisingEdge held) s = .next s)
    ∧ (4 ≤ held → s.sup.kill = false → s.sup.op = .safe → s.sup.latch = .held →
      exec (.killRisingEdge held) s = .next { s with sup := { s.sup with kill := true, latch := .released } })
    ∧ (4 ≤ held → s.sup.kill = false → s.sup.op ≠ .safe ∨ s.sup.latch ≠ .held →
      exec (.killRisingEdge held) s = .next { s with sup := { s.sup with kill := true } })
    ∧ (s.sup.op ≠ .safe ∨ s.sup.latch ≠ .released →
      exec (.rearm params) s = .next { s with sup := { s.sup with lastResult := .wrongState } })
    ∧ (s.sup.op = .safe → s.sup.latch = .released → s.sup.resume = .standby →
      exec (.rearm params) s = .next u)
    ∧ (s.sup.op = .safe → s.sup.latch = .released → s.sup.resume = .discovery →
      exec (.rearm params) s = .next u.enterDiscovery)

/-- R7, R18, R20, R47, R71, R75, R100, R101, R117, R142, R143, R157, R160, R169, R183: SOFT RESET with KILL high.
R183, R181, R157, R130: SOFT RESET with KILL low: as with KILL high, then a safety entry: SAFE, HELD, the one KILL
record, one BLANK.
R160: in a frame that a reset cuts, what was judged or handed on before it stands; a command not yet judged is dropped
and raises no flag; and the rest of the frame does nothing. That a command carries whether a reset cut its frame is
the model's way to this rule (log entry 24).
R71: the records of PENDING are not cleared (log entry 25).
What becomes of the message in flight is the model's reading (log entry 19). -/
def Obligations.SoftResetKeepsTheSettings : Prop :=
  (∀ (params : List Byte) (s : State), s.sup.kill = true →
    ∃ t, exec (.softReset params) s = .next t
      ∧ t.sup =
          { s.sup with
            op := .standby, latch := .clear, resume := .standby, lastResult := .ok, readPointer := none
            flags := .none }
      ∧ t.picture = ⟨.none, .nothing⟩
      ∧ (∀ z, t.zone.faulty z = false)
      ∧ t.zone = { s.zone with storeOpen := true, fault := t.zone.fault }
      ∧ t.solver.phase = .idle ∧ t.solver.voided = false ∧ (∀ d, t.solver.sums.get d = ⟨0, 0, 0, 0⟩)
      ∧ (∀ z, t.banks.active.zone z = ⟨0, 0, 0, 0, false, false, false, false⟩)
      ∧ (∀ d, t.banks.active.domains.get d = ⟨4096, 4096, 0, 10483200⟩)
      ∧ t.banks.active.tag = ⟨false, 0⟩ ∧ t.banks.pend = .empty
      ∧ t.banks.pendingBank.zones = s.banks.pendingBank.zones
      ∧ t.banks.pendingBank.domains = s.banks.pendingBank.domains
      ∧ t.timing =
          { edgeRef := none, tf := 16667, lossTimer := none, freeRun := .off, schedule := none, gateOpen := true
            hold := s.timing.hold, fsync := s.timing.fsync }
      ∧ (∀ i, t.drivers.entryAt i = (s.drivers.entryAt i).map fun e =>
          { e with state := .unprobed, misses := 0, attempts := 0, failed := false })
      ∧ t.drivers.round = none ∧ t.drivers.rotation = none ∧ t.drivers.discovery = none ∧ t.drivers.probes = []
      ∧ (∀ i, t.thermal.get .reset i = ⟨25, 0, 4095, .normal, .none⟩)
      ∧ t.events = ⟨[], false⟩
      ∧ t.link.queue = [.blank] ∧ t.link.resend = none ∧ t.link.pollTimer = none ∧ t.link.attentionHold = false
      ∧ (∀ m, s.link.line = .message m → t.link.line = .message { m with claim := false })
      ∧ ((∀ m, s.link.line ≠ .message m) → t.link.line = s.link.line)
      ∧ t.link.rate = s.link.rate ∧ t.link.mode = s.link.mode ∧ t.link.lineMode = s.link.lineMode
      ∧ t.link.pollInterval = s.link.pollInterval ∧ t.link.lineRate = s.link.lineRate
      ∧ t.link.modeMoved = s.link.modeMoved)
  ∧ (∀ (params : List Byte) (s u : State), s.sup.kill = false →
    exec (.softReset params) { s with sup := { s.sup with kill := true } } = .next u →
    exec (.softReset params) s = .next
      { u with
        sup := { u.sup with op := .safe, latch := .held, kill := false }
        events := ⟨[⟨.kill, none, none, none, 1, ⟨false, 0⟩⟩], false⟩ })
  ∧ (∀ (set bank : Byte) (p first count : BitVec 16) (record : List Byte) (c : Instr) (s : State),
    c ∈ [.writeDemand p true, .pictureWriteGain set p true, .closeFrame record true,
        .pictureReadMap bank first count true, .pictureReadStatus true, .pictureReadGain set first count true] →
    exec c s = .next { s with picture := { s.picture with frame := .nothing } })
  ∧ (∀ (a b h l : Byte) (before after : List Byte) (reset : Instr),
    pictureFrameReset (0x2C :: before) after reset = [reset, .closeFrame (before ++ after) true]
    ∧ pictureFrameReset (0x21 :: h :: l :: before) after reset =
        (.writeDemand (h ++ l) false :: (demandValues before).map .demandValue) ++ reset ::
          ((demandValues (before ++ after)).drop (demandValues before).length).map .demandValue
    ∧ pictureFrameReset [0x61, b, h] (l :: a :: after) reset =
        reset :: .pictureWriteGain b (h ++ l) true :: (gainWords (a :: after)).map .pictureGainValue)

/-- R1, R6, R7, R10, R11, R15, R17, R18, R184 and the power-on columns of the chapters: what power-on reset leaves,
whatever the state before.
R71: the records of PENDING are not cleared; its tag is the model's choice (log entry 6).
That the clock goes on and that the pins FSYNC, HOLD, KILL and the straps are the command's operands are the model's
choices (log entries 1 and 5). -/
def Obligations.PowerOnResetRestoresEveryBlock : Prop :=
  ∀ (straps : BitVec 2) (fsync hold kill : Bool) (s : State),
    ∃ t, exec (.powerOnReset straps hold kill fsync) s = .next t
      ∧ t.zone.cols = 0 ∧ t.zone.rows = 0 ∧ t.zone.storeOpen = true ∧ t.zone.liveSet = .a
      ∧ (∀ z, t.zone.demandAt z = 0 ∧ t.zone.enabled z = true ∧ t.zone.faulty z = false
          ∧ t.zone.gainAt .a z = 1024 ∧ t.zone.gainAt .b z = 1024 ∧ t.zone.locked z = false)
      ∧ (∀ k, t.zone.lockAt k = none)
      ∧ t.solver.phase = .idle ∧ t.solver.voided = false ∧ (∀ d, t.solver.sums.get d = ⟨0, 0, 0, 0⟩)
      ∧ (∀ z, t.banks.active.zone z = ⟨0, 0, 0, 0, false, false, false, false⟩)
      ∧ (∀ d, t.banks.active.domains.get d = ⟨4096, 4096, 0, 10483200⟩)
      ∧ t.banks.active.tag = ⟨false, 0⟩ ∧ t.banks.pend = .empty
      ∧ (∀ z, t.banks.pendingBank.zone z = s.banks.pendingBank.zone z)
      ∧ (∀ d, t.banks.pendingBank.domains.get d = s.banks.pendingBank.domains.get d)
      ∧ t.timing.edgeRef = none ∧ t.timing.tf = 16667 ∧ t.timing.lossTimer = none ∧ t.timing.freeRun = .off
      ∧ t.timing.schedule = none ∧ t.timing.gateOpen = true ∧ t.timing.hold = hold
      ∧ t.timing.fsync = fsync
      ∧ (∀ i, t.drivers.entryAt i = none) ∧ t.drivers.rotation = none ∧ t.drivers.round = none
      ∧ t.drivers.discovery = none ∧ t.drivers.probes = []
      ∧ t.link.line = .idle ∧ t.link.resetGap = true ∧ t.link.resend = none ∧ t.link.queue = []
      ∧ t.link.rate = .mhz20 ∧ t.link.lineRate = .mhz20 ∧ t.link.mode = .quiet ∧ t.link.lineMode = .quiet
      ∧ t.link.modeMoved = false
      ∧ t.link.pollInterval = 4 ∧ t.link.pollTimer = none ∧ t.link.attentionHold = false
      ∧ (∀ i, t.thermal.get .reset i = ⟨25, 0, 4095, .normal, .none⟩)
      ∧ t.events = ⟨[], false⟩ ∧ t.picture = ⟨.none, .nothing⟩
      ∧ t.sup.op = .standby ∧ t.sup.latch = .clear ∧ t.sup.resume = .standby ∧ t.sup.lastResult = .ok
      ∧ t.sup.readPointer = none ∧ t.sup.flags = .none
      ∧ (∀ d, t.sup.budgets.get d = ⟨10483200, 4096⟩) ∧ t.sup.rise = 4095 ∧ t.sup.fall = 4095
      ∧ t.sup.derate = ⟨70, 100, 1024, 95⟩ ∧ t.sup.scan = ⟨1, 0, 0⟩ ∧ t.sup.loss = ⟨4, 0⟩
      ∧ t.sup.straps = straps ∧ t.sup.kill = kill
      ∧ t.prdy = true ∧ t.mapRdy = false ∧ t.salertLow = false
      ∧ t.now = s.now ∧ t.pending = s.pending

/-- R160, R161, R173, R186, R187: the bytes of every port command decode to that command.
R9, R12, R162, R164, R186: demand values and gains decode from the bytes that carry them, a trailing piece is
discarded, and a header's position field holds its start zone and order. -/
def Obligations.PortCommandsDecodeFromTheirBytes : Prop :=
  (∀ i : Instr, Sys2Proof.Laws.Encoding.Statement i)
  ∧ ((∀ values, demandValues (demandBytes values) = values)
  ∧ (∀ words, gainWords (gainWordBytes words) = words)
  ∧ (∀ bytes, (demandValues bytes).length = bytes.length * 2 / 3 ∧ (gainWords bytes).length = bytes.length / 2)
  ∧ ∀ (first : BitVec 12) (order spare : BitVec 2),
      positionStart (first ++ order ++ spare) = first.toNat
      ∧ positionOrder (first ++ order ++ spare) =
          (if order = 0 then some .raster else if order = 1 then some .serpentine
            else if order = 2 then some .quad else none))

/-! ### Invariants -/

/-- Every invariant holds right after power-on reset (R184). The pins of the reset state are log entry 5, its working
values that the manual leaves open are log entry 6, and the canonical form of the tables is log entry 15: the model's
choices, on which the ranges of those values and TablesInv rest. -/
def Obligations.ResetMeetsEveryInvariant : Prop :=
  RangeInv State.reset ∧ SettingsInv State.reset ∧ GridInv State.reset ∧ ThermalInv State.reset
  ∧ DomainInv State.reset ∧ StopPulseInv State.reset ∧ DemandStoreInv State.reset ∧ PendingInv State.reset
  ∧ TagInv State.reset ∧ GateInv State.reset ∧ BudgetInv State.reset ∧ OperatingInv State.reset
  ∧ TimingInv State.reset ∧ PollInv State.reset ∧ OutsideRunInv State.reset ∧ DriverInv State.reset
  ∧ ShippingInv State.reset ∧ QueueInv State.reset ∧ EventInv State.reset ∧ TablesInv State.reset

/-- R37, R40, R49, R80, R87, R134, R147, R177: levels, codes, residuals, factors and settings stay in their ranges.
R101, R102: the driver entries stay in their ranges, inside the grid and apart; that the attempt count stops at 3 is the
model's reading (log entry 9).
R1, R60, R143: so do the grid, the thermal records and the level sums and budgets of the domain records. -/
def Obligations.EveryStepKeepsTheRanges : Prop :=
  (∀ (s t : State), step s = .next t →
    (RangeInv s → RangeInv t) ∧ (SettingsInv s → SettingsInv t))
  ∧ (∀ (s t : State), step s = .next t → DriverInv s → DriverInv t)
  ∧ (∀ (s t : State), step s = .next t →
    (GridInv s → GridInv t) ∧ (SettingsInv s → ThermalInv s → ThermalInv t)
    ∧ (RangeInv s → SettingsInv s → GridInv s → BudgetInv s → DomainInv s → DomainInv t))

/-- R7, R20, R26, R42, R46, R73: the demand store, the solver, the pending state and its tag keep step.
R89, R91, R96, R97, R99: the gate is CLOSED exactly while a schedule is RUNNING, and a SHIPPED map finds it OPEN. -/
def Obligations.EveryStepKeepsTheSolveInStep : Prop :=
  (∀ (s t : State), step s = .next t →
    (DemandStoreInv s → DemandStoreInv t) ∧ (PendingInv s → PendingInv t)
    ∧ (PendingInv s → TagInv s → TagInv t))
  ∧ (∀ (s t : State), step s = .next t → GateInv s → GateInv t)

/-- R65 to R69, R81 to R86, R135, R178, R181, R182: operating state, latch, frame clock and poll timer keep step.
The times are on the model's clock (log entry 1). -/
def Obligations.EveryStepKeepsTheOperatingState : Prop :=
  ∀ (s t : State), step s = .next t →
    (OperatingInv s → OperatingInv t) ∧ (OperatingInv s → TimingInv s → TimingInv t)
    ∧ (OperatingInv s → PollInv s → PollInv t)
    ∧ (OperatingInv s → TimingInv s → PendingInv s → OutsideRunInv s → OutsideRunInv t)

/-- R97, R109, R113, R127, R130: one LEVEL at a time, that of the round's head; the queue in class order.
R133: only a message or an arbitration on the line can have seen the mode setting change since it began (log entry
11). -/
def Obligations.EveryStepKeepsTheLinkInOrder : Prop :=
  ∀ (s t : State), step s = .next t →
    (QueueInv s → QueueInv t)
    ∧ (PendingInv s → GateInv s → OutsideRunInv s → ShippingInv s → ShippingInv t)
    ∧ (StopPulseInv s → StopPulseInv t)

/-- R153, R154, and the canonical form of every table (log entry 15). -/
def Obligations.EveryStepKeepsTheEventQueueAndTheTables : Prop :=
  ∀ (s t : State), step s = .next t → (EventInv s → EventInv t) ∧ (TablesInv s → TablesInv t)
end

