-- ==== Sys2Proof/Laws/State.lean ====
section
/-! SUPPORT. One lemma for each field of each named update: what the update leaves there, so that no proof unfolds
a record update. -/

namespace Sys2Proof.Machine

open Sys2Proof

/-! ### Updates of the whole state -/

@[simp] theorem State.reach_now (s : State) (t : Nat) :
    (s.reach t).now = max s.now t := rfl
@[simp] theorem State.reach_zone (s : State) (t : Nat) :
    (s.reach t).zone = s.zone := rfl
@[simp] theorem State.reach_solver (s : State) (t : Nat) :
    (s.reach t).solver = s.solver := rfl
@[simp] theorem State.reach_banks (s : State) (t : Nat) :
    (s.reach t).banks = s.banks := rfl
@[simp] theorem State.reach_timing (s : State) (t : Nat) :
    (s.reach t).timing = s.timing := rfl
@[simp] theorem State.reach_drivers (s : State) (t : Nat) :
    (s.reach t).drivers = s.drivers := rfl
@[simp] theorem State.reach_link (s : State) (t : Nat) :
    (s.reach t).link = s.link := rfl
@[simp] theorem State.reach_thermal (s : State) (t : Nat) :
    (s.reach t).thermal = s.thermal := rfl
@[simp] theorem State.reach_events (s : State) (t : Nat) :
    (s.reach t).events = s.events := rfl
@[simp] theorem State.reach_picture (s : State) (t : Nat) :
    (s.reach t).picture = s.picture := rfl
@[simp] theorem State.reach_sup (s : State) (t : Nat) :
    (s.reach t).sup = s.sup := rfl
@[simp] theorem State.reach_pending (s : State) (t : Nat) :
    (s.reach t).pending = s.pending := rfl
@[simp] theorem State.raiseIf_now (s : State) (c : Bool) (f : PortFlag) :
    (s.raiseIf c f).now = s.now := rfl
@[simp] theorem State.raiseIf_zone (s : State) (c : Bool) (f : PortFlag) :
    (s.raiseIf c f).zone = s.zone := rfl
@[simp] theorem State.raiseIf_solver (s : State) (c : Bool) (f : PortFlag) :
    (s.raiseIf c f).solver = s.solver := rfl
@[simp] theorem State.raiseIf_banks (s : State) (c : Bool) (f : PortFlag) :
    (s.raiseIf c f).banks = s.banks := rfl
@[simp] theorem State.raiseIf_timing (s : State) (c : Bool) (f : PortFlag) :
    (s.raiseIf c f).timing = s.timing := rfl
@[simp] theorem State.raiseIf_drivers (s : State) (c : Bool) (f : PortFlag) :
    (s.raiseIf c f).drivers = s.drivers := rfl
@[simp] theorem State.raiseIf_link (s : State) (c : Bool) (f : PortFlag) :
    (s.raiseIf c f).link = s.link := rfl
@[simp] theorem State.raiseIf_thermal (s : State) (c : Bool) (f : PortFlag) :
    (s.raiseIf c f).thermal = s.thermal := rfl
@[simp] theorem State.raiseIf_events (s : State) (c : Bool) (f : PortFlag) :
    (s.raiseIf c f).events = s.events := rfl
@[simp] theorem State.raiseIf_picture (s : State) (c : Bool) (f : PortFlag) :
    (s.raiseIf c f).picture = { s.picture with flags := s.picture.flags.setIf c f } := rfl
@[simp] theorem State.raiseIf_sup (s : State) (c : Bool) (f : PortFlag) :
    (s.raiseIf c f).sup = { s.sup with flags := s.sup.flags.setIf c f } := rfl
@[simp] theorem State.raiseIf_pending (s : State) (c : Bool) (f : PortFlag) :
    (s.raiseIf c f).pending = s.pending := rfl
@[simp] theorem State.raise_now (s : State) (f : PortFlag) :
    (s.raise f).now = s.now := rfl
@[simp] theorem State.raise_zone (s : State) (f : PortFlag) :
    (s.raise f).zone = s.zone := rfl
@[simp] theorem State.raise_solver (s : State) (f : PortFlag) :
    (s.raise f).solver = s.solver := rfl
@[simp] theorem State.raise_banks (s : State) (f : PortFlag) :
    (s.raise f).banks = s.banks := rfl
@[simp] theorem State.raise_timing (s : State) (f : PortFlag) :
    (s.raise f).timing = s.timing := rfl
@[simp] theorem State.raise_drivers (s : State) (f : PortFlag) :
    (s.raise f).drivers = s.drivers := rfl
@[simp] theorem State.raise_link (s : State) (f : PortFlag) :
    (s.raise f).link = s.link := rfl
@[simp] theorem State.raise_thermal (s : State) (f : PortFlag) :
    (s.raise f).thermal = s.thermal := rfl
@[simp] theorem State.raise_events (s : State) (f : PortFlag) :
    (s.raise f).events = s.events := rfl
@[simp] theorem State.raise_picture (s : State) (f : PortFlag) :
    (s.raise f).picture = { s.picture with flags := s.picture.flags.set f } := rfl
@[simp] theorem State.raise_sup (s : State) (f : PortFlag) :
    (s.raise f).sup = { s.sup with flags := s.sup.flags.set f } := rfl
@[simp] theorem State.raise_pending (s : State) (f : PortFlag) :
    (s.raise f).pending = s.pending := rfl
@[simp] theorem State.post_now (s : State) (k : EventKind) (driver zone : Option Nat) (value : Option Int) :
    (s.post k driver zone value).now = s.now := rfl
@[simp] theorem State.post_zone (s : State) (k : EventKind) (driver zone : Option Nat) (value : Option Int) :
    (s.post k driver zone value).zone = s.zone := rfl
@[simp] theorem State.post_solver (s : State) (k : EventKind) (driver zone : Option Nat) (value : Option Int) :
    (s.post k driver zone value).solver = s.solver := rfl
@[simp] theorem State.post_banks (s : State) (k : EventKind) (driver zone : Option Nat) (value : Option Int) :
    (s.post k driver zone value).banks = s.banks := rfl
@[simp] theorem State.post_timing (s : State) (k : EventKind) (driver zone : Option Nat) (value : Option Int) :
    (s.post k driver zone value).timing = s.timing := rfl
@[simp] theorem State.post_drivers (s : State) (k : EventKind) (driver zone : Option Nat) (value : Option Int) :
    (s.post k driver zone value).drivers = s.drivers := rfl
@[simp] theorem State.post_link (s : State) (k : EventKind) (driver zone : Option Nat) (value : Option Int) :
    (s.post k driver zone value).link = s.link := rfl
@[simp] theorem State.post_thermal (s : State) (k : EventKind) (driver zone : Option Nat) (value : Option Int) :
    (s.post k driver zone value).thermal = s.thermal := rfl
@[simp] theorem State.post_events (s : State) (k : EventKind) (driver zone : Option Nat) (value : Option Int) :
    (s.post k driver zone value).events = s.events.post s.banks.active.tag k driver zone value := rfl
@[simp] theorem State.post_picture (s : State) (k : EventKind) (driver zone : Option Nat) (value : Option Int) :
    (s.post k driver zone value).picture = s.picture := rfl
@[simp] theorem State.post_sup (s : State) (k : EventKind) (driver zone : Option Nat) (value : Option Int) :
    (s.post k driver zone value).sup = s.sup := rfl
@[simp] theorem State.post_pending (s : State) (k : EventKind) (driver zone : Option Nat) (value : Option Int) :
    (s.post k driver zone value).pending = s.pending := rfl
@[simp] theorem State.result_now (s : State) (r : LastResult) :
    (s.result r).now = s.now := rfl
@[simp] theorem State.result_zone (s : State) (r : LastResult) :
    (s.result r).zone = s.zone := rfl
@[simp] theorem State.result_solver (s : State) (r : LastResult) :
    (s.result r).solver = s.solver := rfl
@[simp] theorem State.result_banks (s : State) (r : LastResult) :
    (s.result r).banks = s.banks := rfl
@[simp] theorem State.result_timing (s : State) (r : LastResult) :
    (s.result r).timing = s.timing := rfl
@[simp] theorem State.result_drivers (s : State) (r : LastResult) :
    (s.result r).drivers = s.drivers := rfl
@[simp] theorem State.result_link (s : State) (r : LastResult) :
    (s.result r).link = s.link := rfl
@[simp] theorem State.result_thermal (s : State) (r : LastResult) :
    (s.result r).thermal = s.thermal := rfl
@[simp] theorem State.result_events (s : State) (r : LastResult) :
    (s.result r).events = s.events := rfl
@[simp] theorem State.result_picture (s : State) (r : LastResult) :
    (s.result r).picture = s.picture := rfl
@[simp] theorem State.result_sup (s : State) (r : LastResult) :
    (s.result r).sup = { s.sup with lastResult := r } := rfl
@[simp] theorem State.result_pending (s : State) (r : LastResult) :
    (s.result r).pending = s.pending := rfl
@[simp] theorem State.fixRecord_now (s : State) (r : ReadRecord) :
    (s.fixRecord r).now = s.now := rfl
@[simp] theorem State.fixRecord_zone (s : State) (r : ReadRecord) :
    (s.fixRecord r).zone = s.zone := rfl
@[simp] theorem State.fixRecord_solver (s : State) (r : ReadRecord) :
    (s.fixRecord r).solver = s.solver := rfl
@[simp] theorem State.fixRecord_banks (s : State) (r : ReadRecord) :
    (s.fixRecord r).banks = s.banks := rfl
@[simp] theorem State.fixRecord_timing (s : State) (r : ReadRecord) :
    (s.fixRecord r).timing = s.timing := rfl
@[simp] theorem State.fixRecord_drivers (s : State) (r : ReadRecord) :
    (s.fixRecord r).drivers = s.drivers := rfl
@[simp] theorem State.fixRecord_link (s : State) (r : ReadRecord) :
    (s.fixRecord r).link = s.link := rfl
@[simp] theorem State.fixRecord_thermal (s : State) (r : ReadRecord) :
    (s.fixRecord r).thermal = s.thermal := rfl
@[simp] theorem State.fixRecord_events (s : State) (r : ReadRecord) :
    (s.fixRecord r).events = s.events := rfl
@[simp] theorem State.fixRecord_picture (s : State) (r : ReadRecord) :
    (s.fixRecord r).picture = s.picture := rfl
@[simp] theorem State.fixRecord_sup (s : State) (r : ReadRecord) :
    (s.fixRecord r).sup = { s.sup with lastResult := .ok, readPointer := some r } := rfl
@[simp] theorem State.fixRecord_pending (s : State) (r : ReadRecord) :
    (s.fixRecord r).pending = s.pending := rfl
@[simp] theorem State.frame_now (s : State) (f : PictureFrame) :
    (s.frame f).now = s.now := rfl
@[simp] theorem State.frame_zone (s : State) (f : PictureFrame) :
    (s.frame f).zone = s.zone := rfl
@[simp] theorem State.frame_solver (s : State) (f : PictureFrame) :
    (s.frame f).solver = s.solver := rfl
@[simp] theorem State.frame_banks (s : State) (f : PictureFrame) :
    (s.frame f).banks = s.banks := rfl
@[simp] theorem State.frame_timing (s : State) (f : PictureFrame) :
    (s.frame f).timing = s.timing := rfl
@[simp] theorem State.frame_drivers (s : State) (f : PictureFrame) :
    (s.frame f).drivers = s.drivers := rfl
@[simp] theorem State.frame_link (s : State) (f : PictureFrame) :
    (s.frame f).link = s.link := rfl
@[simp] theorem State.frame_thermal (s : State) (f : PictureFrame) :
    (s.frame f).thermal = s.thermal := rfl
@[simp] theorem State.frame_events (s : State) (f : PictureFrame) :
    (s.frame f).events = s.events := rfl
@[simp] theorem State.frame_picture (s : State) (f : PictureFrame) :
    (s.frame f).picture = { s.picture with frame := f } := rfl
@[simp] theorem State.frame_sup (s : State) (f : PictureFrame) :
    (s.frame f).sup = s.sup := rfl
@[simp] theorem State.frame_pending (s : State) (f : PictureFrame) :
    (s.frame f).pending = s.pending := rfl
@[simp] theorem State.tick_now (s : State) :
    (s.tick).now = s.now + 1 := rfl
@[simp] theorem State.tick_zone (s : State) :
    (s.tick).zone = s.zone := rfl
@[simp] theorem State.tick_solver (s : State) :
    (s.tick).solver = s.solver := rfl
@[simp] theorem State.tick_banks (s : State) :
    (s.tick).banks = s.banks := rfl
@[simp] theorem State.tick_timing (s : State) :
    (s.tick).timing = s.timing := rfl
@[simp] theorem State.tick_drivers (s : State) :
    (s.tick).drivers = s.drivers := rfl
@[simp] theorem State.tick_thermal (s : State) :
    (s.tick).thermal = s.thermal := rfl
@[simp] theorem State.tick_events (s : State) :
    (s.tick).events = s.events := rfl
@[simp] theorem State.tick_picture (s : State) :
    (s.tick).picture = s.picture := rfl
@[simp] theorem State.tick_sup (s : State) :
    (s.tick).sup = s.sup := rfl
@[simp] theorem State.tick_pending (s : State) :
    (s.tick).pending = s.pending := rfl
@[simp] theorem State.supersede_now (s : State) :
    (s.supersede).now = s.now := rfl
@[simp] theorem State.supersede_zone (s : State) :
    (s.supersede).zone = s.zone := rfl
@[simp] theorem State.supersede_solver (s : State) :
    (s.supersede).solver = s.solver := rfl
@[simp] theorem State.supersede_banks (s : State) :
    (s.supersede).banks = s.banks := rfl
@[simp] theorem State.supersede_timing (s : State) :
    (s.supersede).timing = s.timing := rfl
@[simp] theorem State.supersede_drivers (s : State) :
    (s.supersede).drivers = s.drivers.endRound := rfl
@[simp] theorem State.supersede_link (s : State) :
    (s.supersede).link = s.link.dropLevel := rfl
@[simp] theorem State.supersede_thermal (s : State) :
    (s.supersede).thermal = s.thermal := rfl
@[simp] theorem State.supersede_events (s : State) :
    (s.supersede).events = s.events := rfl
@[simp] theorem State.supersede_picture (s : State) :
    (s.supersede).picture = { s.picture with flags := s.picture.flags.set .superseded } := rfl
@[simp] theorem State.supersede_sup (s : State) :
    (s.supersede).sup = { s.sup with flags := s.sup.flags.set .superseded } := rfl
@[simp] theorem State.supersede_pending (s : State) :
    (s.supersede).pending = s.pending := rfl
@[simp] theorem State.endOperations_now (s : State) :
    (s.endOperations).now = s.now := rfl
@[simp] theorem State.endOperations_zone (s : State) :
    (s.endOperations).zone = s.zone := rfl
@[simp] theorem State.endOperations_solver (s : State) :
    (s.endOperations).solver = s.solver.void := rfl
@[simp] theorem State.endOperations_banks (s : State) :
    (s.endOperations).banks = s.banks.discard := rfl
@[simp] theorem State.endOperations_timing (s : State) :
    (s.endOperations).timing = s.timing.cancel := rfl
@[simp] theorem State.endOperations_drivers (s : State) :
    (s.endOperations).drivers = s.drivers.endWork := rfl
@[simp] theorem State.endOperations_link (s : State) :
    (s.endOperations).link = s.link.quench := rfl
@[simp] theorem State.endOperations_thermal (s : State) :
    (s.endOperations).thermal = s.thermal := rfl
@[simp] theorem State.endOperations_events (s : State) :
    (s.endOperations).events = s.events := rfl
@[simp] theorem State.endOperations_picture (s : State) :
    (s.endOperations).picture = s.picture := rfl
@[simp] theorem State.endOperations_sup (s : State) :
    (s.endOperations).sup = s.sup := rfl
@[simp] theorem State.endOperations_pending (s : State) :
    (s.endOperations).pending = s.pending := rfl
@[simp] theorem State.enterRun_now (s : State) :
    (s.enterRun).now = s.now := rfl
@[simp] theorem State.enterRun_zone (s : State) :
    (s.enterRun).zone = s.zone := rfl
@[simp] theorem State.enterRun_solver (s : State) :
    (s.enterRun).solver = s.solver := rfl
@[simp] theorem State.enterRun_banks (s : State) :
    (s.enterRun).banks = s.banks.clearActive := rfl
@[simp] theorem State.enterRun_drivers (s : State) :
    (s.enterRun).drivers = { s.drivers with rotation := none, discovery := none } := rfl
@[simp] theorem State.enterRun_link (s : State) :
    (s.enterRun).link = { s.link with pollTimer := if s.link.mode = .polled then some s.now else none } := rfl
@[simp] theorem State.enterRun_thermal (s : State) :
    (s.enterRun).thermal = s.thermal := rfl
@[simp] theorem State.enterRun_events (s : State) :
    (s.enterRun).events = s.events := rfl
@[simp] theorem State.enterRun_picture (s : State) :
    (s.enterRun).picture = s.picture := rfl
@[simp] theorem State.enterRun_sup (s : State) :
    (s.enterRun).sup = { s.sup with op := .run } := rfl
@[simp] theorem State.enterRun_pending (s : State) :
    (s.enterRun).pending = s.pending := rfl
@[simp] theorem State.commit_now (s : State) :
    (s.commit).now = s.now := rfl
@[simp] theorem State.commit_zone (s : State) :
    (s.commit).zone = s.zone := rfl
@[simp] theorem State.commit_solver (s : State) :
    (s.commit).solver = s.solver := rfl
@[simp] theorem State.commit_banks (s : State) :
    (s.commit).banks = { s.banks with active := s.committedBank, pendingBank := s.banks.active, pend := .empty } := rfl
@[simp] theorem State.commit_thermal (s : State) :
    (s.commit).thermal = s.thermal := rfl
@[simp] theorem State.commit_picture (s : State) :
    (s.commit).picture = s.picture := rfl
@[simp] theorem State.commit_sup (s : State) :
    (s.commit).sup = s.sup := rfl
@[simp] theorem State.commit_pending (s : State) :
    (s.commit).pending = s.pending := rfl
@[simp] theorem State.startSolve_now (s : State) (kind : SolveKind) (params : SolveParams) (epoch : Bool) :
    (s.startSolve kind params epoch).now = s.now := rfl
@[simp] theorem State.startSolve_zone (s : State) (kind : SolveKind) (params : SolveParams) (epoch : Bool) :
    (s.startSolve kind params epoch).zone = { s.zone with storeOpen := s.zone.storeOpen && decide (kind = .loss) } := rfl
@[simp] theorem State.startSolve_timing (s : State) (kind : SolveKind) (params : SolveParams) (epoch : Bool) :
    (s.startSolve kind params epoch).timing = s.timing := rfl
@[simp] theorem State.startSolve_drivers (s : State) (kind : SolveKind) (params : SolveParams) (epoch : Bool) :
    (s.startSolve kind params epoch).drivers = s.drivers := rfl
@[simp] theorem State.startSolve_link (s : State) (kind : SolveKind) (params : SolveParams) (epoch : Bool) :
    (s.startSolve kind params epoch).link = s.link := rfl
@[simp] theorem State.startSolve_thermal (s : State) (kind : SolveKind) (params : SolveParams) (epoch : Bool) :
    (s.startSolve kind params epoch).thermal = s.thermal := rfl
@[simp] theorem State.startSolve_events (s : State) (kind : SolveKind) (params : SolveParams) (epoch : Bool) :
    (s.startSolve kind params epoch).events = s.events := rfl
@[simp] theorem State.startSolve_picture (s : State) (kind : SolveKind) (params : SolveParams) (epoch : Bool) :
    (s.startSolve kind params epoch).picture = s.picture := rfl
@[simp] theorem State.startSolve_sup (s : State) (kind : SolveKind) (params : SolveParams) (epoch : Bool) :
    (s.startSolve kind params epoch).sup = s.sup := rfl
@[simp] theorem State.startSolve_pending (s : State) (kind : SolveKind) (params : SolveParams) (epoch : Bool) :
    (s.startSolve kind params epoch).pending = s.pending := rfl
@[simp] theorem State.pass2Step_now (s : State) :
    (s.pass2Step).now = max s.now (s.solver.startTime + passTime s.zone.n + 1 + zoneTime s.zone.n s.solver.cursor) := rfl
@[simp] theorem State.pass2Step_zone (s : State) :
    (s.pass2Step).zone = s.zone := rfl
@[simp] theorem State.pass2Step_timing (s : State) :
    (s.pass2Step).timing = s.timing := rfl
@[simp] theorem State.pass2Step_drivers (s : State) :
    (s.pass2Step).drivers = s.drivers := rfl
@[simp] theorem State.pass2Step_link (s : State) :
    (s.pass2Step).link = s.link := rfl
@[simp] theorem State.pass2Step_thermal (s : State) :
    (s.pass2Step).thermal = s.thermal := rfl
@[simp] theorem State.pass2Step_events (s : State) :
    (s.pass2Step).events = s.events := rfl
@[simp] theorem State.pass2Step_picture (s : State) :
    (s.pass2Step).picture = s.picture := rfl
@[simp] theorem State.pass2Step_sup (s : State) :
    (s.pass2Step).sup = s.sup := rfl
@[simp] theorem State.pass2Step_pending (s : State) :
    (s.pass2Step).pending = s.pending := rfl

/-! ### Updates of the whole state by a pin and by power-on reset -/

@[simp] theorem State.fsyncLevel_now (s : State) (high : Bool) :
    (s.fsyncLevel high).now = s.now := rfl
@[simp] theorem State.fsyncLevel_zone (s : State) (high : Bool) :
    (s.fsyncLevel high).zone = s.zone := rfl
@[simp] theorem State.fsyncLevel_solver (s : State) (high : Bool) :
    (s.fsyncLevel high).solver = s.solver := rfl
@[simp] theorem State.fsyncLevel_banks (s : State) (high : Bool) :
    (s.fsyncLevel high).banks = s.banks := rfl
@[simp] theorem State.fsyncLevel_timing (s : State) (high : Bool) :
    (s.fsyncLevel high).timing = { s.timing with fsync := high } := rfl
@[simp] theorem State.fsyncLevel_drivers (s : State) (high : Bool) :
    (s.fsyncLevel high).drivers = s.drivers := rfl
@[simp] theorem State.fsyncLevel_link (s : State) (high : Bool) :
    (s.fsyncLevel high).link = s.link := rfl
@[simp] theorem State.fsyncLevel_thermal (s : State) (high : Bool) :
    (s.fsyncLevel high).thermal = s.thermal := rfl
@[simp] theorem State.fsyncLevel_events (s : State) (high : Bool) :
    (s.fsyncLevel high).events = s.events := rfl
@[simp] theorem State.fsyncLevel_picture (s : State) (high : Bool) :
    (s.fsyncLevel high).picture = s.picture := rfl
@[simp] theorem State.fsyncLevel_sup (s : State) (high : Bool) :
    (s.fsyncLevel high).sup = s.sup := rfl
@[simp] theorem State.fsyncLevel_pending (s : State) (high : Bool) :
    (s.fsyncLevel high).pending = s.pending := rfl
@[simp] theorem State.powerOn_now (straps : BitVec 2) (fsync hold kill : Bool) (held : Bank) (now : Nat)
    (queue : List Instr) : (State.powerOn straps fsync hold kill held now queue).now = now := rfl
@[simp] theorem State.powerOn_zone (straps : BitVec 2) (fsync hold kill : Bool) (held : Bank) (now : Nat)
    (queue : List Instr) : (State.powerOn straps fsync hold kill held now queue).zone = .reset := rfl
@[simp] theorem State.powerOn_solver (straps : BitVec 2) (fsync hold kill : Bool) (held : Bank) (now : Nat)
    (queue : List Instr) : (State.powerOn straps fsync hold kill held now queue).solver = .reset := rfl
@[simp] theorem State.powerOn_banks (straps : BitVec 2) (fsync hold kill : Bool) (held : Bank) (now : Nat)
    (queue : List Instr) : (State.powerOn straps fsync hold kill held now queue).banks = .powerOn held := rfl
@[simp] theorem State.powerOn_timing (straps : BitVec 2) (fsync hold kill : Bool) (held : Bank) (now : Nat)
    (queue : List Instr) : (State.powerOn straps fsync hold kill held now queue).timing = .reset hold fsync := rfl
@[simp] theorem State.powerOn_drivers (straps : BitVec 2) (fsync hold kill : Bool) (held : Bank) (now : Nat)
    (queue : List Instr) : (State.powerOn straps fsync hold kill held now queue).drivers = .reset := rfl
@[simp] theorem State.powerOn_link (straps : BitVec 2) (fsync hold kill : Bool) (held : Bank) (now : Nat)
    (queue : List Instr) : (State.powerOn straps fsync hold kill held now queue).link = .reset := rfl
@[simp] theorem State.powerOn_thermal (straps : BitVec 2) (fsync hold kill : Bool) (held : Bank) (now : Nat)
    (queue : List Instr) : (State.powerOn straps fsync hold kill held now queue).thermal = ⟨[]⟩ := rfl
@[simp] theorem State.powerOn_events (straps : BitVec 2) (fsync hold kill : Bool) (held : Bank) (now : Nat)
    (queue : List Instr) : (State.powerOn straps fsync hold kill held now queue).events = ⟨[], false⟩ := rfl
@[simp] theorem State.powerOn_picture (straps : BitVec 2) (fsync hold kill : Bool) (held : Bank) (now : Nat)
    (queue : List Instr) : (State.powerOn straps fsync hold kill held now queue).picture = ⟨.none, .nothing⟩ := rfl
@[simp] theorem State.powerOn_sup (straps : BitVec 2) (fsync hold kill : Bool) (held : Bank) (now : Nat)
    (queue : List Instr) : (State.powerOn straps fsync hold kill held now queue).sup = .reset straps kill := rfl
@[simp] theorem State.powerOn_pending (straps : BitVec 2) (fsync hold kill : Bool) (held : Bank) (now : Nat)
    (queue : List Instr) : (State.powerOn straps fsync hold kill held now queue).pending = queue := rfl

/-! ### Updates of the link -/

@[simp] theorem Link.send_line (l : Link) (m : Message) :
    (l.send m).line = l.line := rfl
@[simp] theorem Link.send_idlePeriods (l : Link) (m : Message) :
    (l.send m).idlePeriods = l.idlePeriods := rfl
@[simp] theorem Link.send_resetGap (l : Link) (m : Message) :
    (l.send m).resetGap = l.resetGap := rfl
@[simp] theorem Link.send_resend (l : Link) (m : Message) :
    (l.send m).resend = l.resend := rfl
@[simp] theorem Link.send_queue (l : Link) (m : Message) :
    (l.send m).queue = enqueue m l.queue := rfl
@[simp] theorem Link.send_rate (l : Link) (m : Message) :
    (l.send m).rate = l.rate := rfl
@[simp] theorem Link.send_lineRate (l : Link) (m : Message) :
    (l.send m).lineRate = l.lineRate := rfl
@[simp] theorem Link.send_mode (l : Link) (m : Message) :
    (l.send m).mode = l.mode := rfl
@[simp] theorem Link.send_lineMode (l : Link) (m : Message) :
    (l.send m).lineMode = l.lineMode := rfl
@[simp] theorem Link.send_modeMoved (l : Link) (m : Message) :
    (l.send m).modeMoved = l.modeMoved := rfl
@[simp] theorem Link.send_pollInterval (l : Link) (m : Message) :
    (l.send m).pollInterval = l.pollInterval := rfl
@[simp] theorem Link.send_pollTimer (l : Link) (m : Message) :
    (l.send m).pollTimer = l.pollTimer := rfl
@[simp] theorem Link.send_attentionHold (l : Link) (m : Message) :
    (l.send m).attentionHold = l.attentionHold := rfl
@[simp] theorem Link.withdraw_idlePeriods (l : Link) (which : Message → Bool) :
    (l.withdraw which).idlePeriods = l.idlePeriods := rfl
@[simp] theorem Link.withdraw_resetGap (l : Link) (which : Message → Bool) :
    (l.withdraw which).resetGap = l.resetGap := rfl
@[simp] theorem Link.withdraw_resend (l : Link) (which : Message → Bool) :
    (l.withdraw which).resend = l.resend := rfl
@[simp] theorem Link.withdraw_queue (l : Link) (which : Message → Bool) :
    (l.withdraw which).queue = l.queue := rfl
@[simp] theorem Link.withdraw_rate (l : Link) (which : Message → Bool) :
    (l.withdraw which).rate = l.rate := rfl
@[simp] theorem Link.withdraw_lineRate (l : Link) (which : Message → Bool) :
    (l.withdraw which).lineRate = l.lineRate := rfl
@[simp] theorem Link.withdraw_mode (l : Link) (which : Message → Bool) :
    (l.withdraw which).mode = l.mode := rfl
@[simp] theorem Link.withdraw_lineMode (l : Link) (which : Message → Bool) :
    (l.withdraw which).lineMode = l.lineMode := rfl
@[simp] theorem Link.withdraw_modeMoved (l : Link) (which : Message → Bool) :
    (l.withdraw which).modeMoved = l.modeMoved := rfl
@[simp] theorem Link.withdraw_pollInterval (l : Link) (which : Message → Bool) :
    (l.withdraw which).pollInterval = l.pollInterval := rfl
@[simp] theorem Link.withdraw_pollTimer (l : Link) (which : Message → Bool) :
    (l.withdraw which).pollTimer = l.pollTimer := rfl
@[simp] theorem Link.withdraw_attentionHold (l : Link) (which : Message → Bool) :
    (l.withdraw which).attentionHold = l.attentionHold := rfl
@[simp] theorem Link.dropLevel_idlePeriods (l : Link) :
    (l.dropLevel).idlePeriods = l.idlePeriods := rfl
@[simp] theorem Link.dropLevel_resetGap (l : Link) :
    (l.dropLevel).resetGap = l.resetGap := rfl
@[simp] theorem Link.dropLevel_resend (l : Link) :
    (l.dropLevel).resend = l.resend := rfl
@[simp] theorem Link.dropLevel_queue (l : Link) :
    (l.dropLevel).queue = l.queue.filter fun m => !m.isLevel := rfl
@[simp] theorem Link.dropLevel_rate (l : Link) :
    (l.dropLevel).rate = l.rate := rfl
@[simp] theorem Link.dropLevel_lineRate (l : Link) :
    (l.dropLevel).lineRate = l.lineRate := rfl
@[simp] theorem Link.dropLevel_mode (l : Link) :
    (l.dropLevel).mode = l.mode := rfl
@[simp] theorem Link.dropLevel_lineMode (l : Link) :
    (l.dropLevel).lineMode = l.lineMode := rfl
@[simp] theorem Link.dropLevel_modeMoved (l : Link) :
    (l.dropLevel).modeMoved = l.modeMoved := rfl
@[simp] theorem Link.dropLevel_pollInterval (l : Link) :
    (l.dropLevel).pollInterval = l.pollInterval := rfl
@[simp] theorem Link.dropLevel_pollTimer (l : Link) :
    (l.dropLevel).pollTimer = l.pollTimer := rfl
@[simp] theorem Link.dropLevel_attentionHold (l : Link) :
    (l.dropLevel).attentionHold = l.attentionHold := rfl
@[simp] theorem Link.quench_idlePeriods (l : Link) :
    (l.quench).idlePeriods = l.idlePeriods := rfl
@[simp] theorem Link.quench_resetGap (l : Link) :
    (l.quench).resetGap = l.resetGap := rfl
@[simp] theorem Link.quench_queue (l : Link) :
    (l.quench).queue = [.blank] := rfl
@[simp] theorem Link.quench_rate (l : Link) :
    (l.quench).rate = l.rate := rfl
@[simp] theorem Link.quench_lineRate (l : Link) :
    (l.quench).lineRate = l.lineRate := rfl
@[simp] theorem Link.quench_mode (l : Link) :
    (l.quench).mode = l.mode := rfl
@[simp] theorem Link.quench_lineMode (l : Link) :
    (l.quench).lineMode = l.lineMode := rfl
@[simp] theorem Link.quench_modeMoved (l : Link) :
    (l.quench).modeMoved = l.modeMoved := rfl
@[simp] theorem Link.quench_pollInterval (l : Link) :
    (l.quench).pollInterval = l.pollInterval := rfl
@[simp] theorem Link.quench_pollTimer (l : Link) :
    (l.quench).pollTimer = none := rfl
@[simp] theorem Link.quench_attentionHold (l : Link) :
    (l.quench).attentionHold = l.attentionHold := rfl
@[simp] theorem Link.softReset_idlePeriods (l : Link) :
    (l.softReset).idlePeriods = l.idlePeriods := rfl
@[simp] theorem Link.softReset_resetGap (l : Link) :
    (l.softReset).resetGap = l.resetGap := rfl
@[simp] theorem Link.softReset_resend (l : Link) :
    (l.softReset).resend = none := rfl
@[simp] theorem Link.softReset_queue (l : Link) :
    (l.softReset).queue = [.blank] := rfl
@[simp] theorem Link.softReset_rate (l : Link) :
    (l.softReset).rate = l.rate := rfl
@[simp] theorem Link.softReset_lineRate (l : Link) :
    (l.softReset).lineRate = l.lineRate := rfl
@[simp] theorem Link.softReset_mode (l : Link) :
    (l.softReset).mode = l.mode := rfl
@[simp] theorem Link.softReset_lineMode (l : Link) :
    (l.softReset).lineMode = l.lineMode := rfl
@[simp] theorem Link.softReset_modeMoved (l : Link) :
    (l.softReset).modeMoved = l.modeMoved := rfl
@[simp] theorem Link.softReset_pollInterval (l : Link) :
    (l.softReset).pollInterval = l.pollInterval := rfl
@[simp] theorem Link.softReset_pollTimer (l : Link) :
    (l.softReset).pollTimer = none := rfl
@[simp] theorem Link.softReset_attentionHold (l : Link) :
    (l.softReset).attentionHold = false := rfl
@[simp] theorem Link.finish_line (l : Link) (wide : Bool) :
    (l.finish wide).line = .idle := rfl
@[simp] theorem Link.finish_idlePeriods (l : Link) (wide : Bool) :
    (l.finish wide).idlePeriods = 0 := rfl
@[simp] theorem Link.finish_resetGap (l : Link) (wide : Bool) :
    (l.finish wide).resetGap = l.resetGap := rfl
@[simp] theorem Link.finish_resend (l : Link) (wide : Bool) :
    (l.finish wide).resend = l.resend := rfl
@[simp] theorem Link.finish_queue (l : Link) (wide : Bool) :
    (l.finish wide).queue = l.queue := rfl
@[simp] theorem Link.finish_rate (l : Link) (wide : Bool) :
    (l.finish wide).rate = l.rate := rfl
@[simp] theorem Link.finish_lineRate (l : Link) (wide : Bool) :
    (l.finish wide).lineRate = l.rate := rfl
@[simp] theorem Link.finish_mode (l : Link) (wide : Bool) :
    (l.finish wide).mode = l.mode := rfl
@[simp] theorem Link.finish_lineMode (l : Link) (wide : Bool) :
    (l.finish wide).lineMode = l.told wide := rfl
@[simp] theorem Link.finish_modeMoved (l : Link) (wide : Bool) :
    (l.finish wide).modeMoved = false := rfl
@[simp] theorem Link.finish_pollInterval (l : Link) (wide : Bool) :
    (l.finish wide).pollInterval = l.pollInterval := rfl
@[simp] theorem Link.finish_pollTimer (l : Link) (wide : Bool) :
    (l.finish wide).pollTimer = l.pollTimer := rfl
@[simp] theorem Link.finish_attentionHold (l : Link) (wide : Bool) :
    (l.finish wide).attentionHold = l.attentionHold := rfl
@[simp] theorem Link.entryGone_idlePeriods (l : Link) (which : Nat → Bool) :
    (l.entryGone which).idlePeriods = l.idlePeriods := rfl
@[simp] theorem Link.entryGone_resetGap (l : Link) (which : Nat → Bool) :
    (l.entryGone which).resetGap = l.resetGap := rfl
@[simp] theorem Link.entryGone_resend (l : Link) (which : Nat → Bool) :
    (l.entryGone which).resend = l.resend := rfl
@[simp] theorem Link.entryGone_queue (l : Link) (which : Nat → Bool) :
    (l.entryGone which).queue = l.queue := rfl
@[simp] theorem Link.entryGone_rate (l : Link) (which : Nat → Bool) :
    (l.entryGone which).rate = l.rate := rfl
@[simp] theorem Link.entryGone_lineRate (l : Link) (which : Nat → Bool) :
    (l.entryGone which).lineRate = l.lineRate := rfl
@[simp] theorem Link.entryGone_mode (l : Link) (which : Nat → Bool) :
    (l.entryGone which).mode = l.mode := rfl
@[simp] theorem Link.entryGone_lineMode (l : Link) (which : Nat → Bool) :
    (l.entryGone which).lineMode = l.lineMode := rfl
@[simp] theorem Link.entryGone_modeMoved (l : Link) (which : Nat → Bool) :
    (l.entryGone which).modeMoved = l.modeMoved := rfl
@[simp] theorem Link.entryGone_pollInterval (l : Link) (which : Nat → Bool) :
    (l.entryGone which).pollInterval = l.pollInterval := rfl
@[simp] theorem Link.entryGone_pollTimer (l : Link) (which : Nat → Bool) :
    (l.entryGone which).pollTimer = l.pollTimer := rfl
@[simp] theorem Link.entryGone_attentionHold (l : Link) (which : Nat → Bool) :
    (l.entryGone which).attentionHold = l.attentionHold := rfl
@[simp] theorem Link.begin_line (l : Link) (m : InFlight) :
    (l.begin m).line = .message m := rfl
@[simp] theorem Link.begin_idlePeriods (l : Link) (m : InFlight) :
    (l.begin m).idlePeriods = l.idlePeriods := rfl
@[simp] theorem Link.begin_resetGap (l : Link) (m : InFlight) :
    (l.begin m).resetGap = l.resetGap := rfl
@[simp] theorem Link.begin_resend (l : Link) (m : InFlight) :
    (l.begin m).resend = l.resend := rfl
@[simp] theorem Link.begin_queue (l : Link) (m : InFlight) :
    (l.begin m).queue = l.queue := rfl
@[simp] theorem Link.begin_rate (l : Link) (m : InFlight) :
    (l.begin m).rate = l.rate := rfl
@[simp] theorem Link.begin_lineRate (l : Link) (m : InFlight) :
    (l.begin m).lineRate = l.lineRate := rfl
@[simp] theorem Link.begin_mode (l : Link) (m : InFlight) :
    (l.begin m).mode = l.mode := rfl
@[simp] theorem Link.begin_lineMode (l : Link) (m : InFlight) :
    (l.begin m).lineMode = l.lineMode := rfl
@[simp] theorem Link.begin_modeMoved (l : Link) (m : InFlight) :
    (l.begin m).modeMoved = l.modeMoved := rfl
@[simp] theorem Link.begin_pollInterval (l : Link) (m : InFlight) :
    (l.begin m).pollInterval = l.pollInterval := rfl
@[simp] theorem Link.begin_pollTimer (l : Link) (m : InFlight) :
    (l.begin m).pollTimer = l.pollTimer := rfl
@[simp] theorem Link.begin_attentionHold (l : Link) (m : InFlight) :
    (l.begin m).attentionHold = false := rfl

/-! ### Updates of the frame clock, the driver table, the banks, the solver and the zone store -/

@[simp] theorem FrameTiming.cancel_edgeRef (t : FrameTiming) :
    (t.cancel).edgeRef = t.edgeRef := rfl
@[simp] theorem FrameTiming.cancel_tf (t : FrameTiming) :
    (t.cancel).tf = t.tf := rfl
@[simp] theorem FrameTiming.cancel_lossTimer (t : FrameTiming) :
    (t.cancel).lossTimer = t.lossTimer := rfl
@[simp] theorem FrameTiming.cancel_freeRun (t : FrameTiming) :
    (t.cancel).freeRun = t.freeRun := rfl
@[simp] theorem FrameTiming.cancel_schedule (t : FrameTiming) :
    (t.cancel).schedule = none := rfl
@[simp] theorem FrameTiming.cancel_gateOpen (t : FrameTiming) :
    (t.cancel).gateOpen = true := rfl
@[simp] theorem FrameTiming.cancel_hold (t : FrameTiming) :
    (t.cancel).hold = t.hold := rfl
@[simp] theorem FrameTiming.cancel_fsync (t : FrameTiming) :
    (t.cancel).fsync = t.fsync := rfl
@[simp] theorem FrameTiming.leaveRun_edgeRef (t : FrameTiming) :
    (t.leaveRun).edgeRef = none := rfl
@[simp] theorem FrameTiming.leaveRun_tf (t : FrameTiming) :
    (t.leaveRun).tf = t.tf := rfl
@[simp] theorem FrameTiming.leaveRun_lossTimer (t : FrameTiming) :
    (t.leaveRun).lossTimer = none := rfl
@[simp] theorem FrameTiming.leaveRun_freeRun (t : FrameTiming) :
    (t.leaveRun).freeRun = .off := rfl
@[simp] theorem FrameTiming.leaveRun_schedule (t : FrameTiming) :
    (t.leaveRun).schedule = t.schedule := rfl
@[simp] theorem FrameTiming.leaveRun_gateOpen (t : FrameTiming) :
    (t.leaveRun).gateOpen = t.gateOpen := rfl
@[simp] theorem FrameTiming.leaveRun_hold (t : FrameTiming) :
    (t.leaveRun).hold = t.hold := rfl
@[simp] theorem FrameTiming.leaveRun_fsync (t : FrameTiming) :
    (t.leaveRun).fsync = t.fsync := rfl
@[simp] theorem FrameTiming.accept_edgeRef (t : FrameTiming) (now : Nat) :
    (t.accept now).edgeRef = some now := rfl
@[simp] theorem FrameTiming.accept_lossTimer (t : FrameTiming) (now : Nat) :
    (t.accept now).lossTimer = some now := rfl
@[simp] theorem FrameTiming.accept_freeRun (t : FrameTiming) (now : Nat) :
    (t.accept now).freeRun = t.freeRun := rfl
@[simp] theorem FrameTiming.accept_schedule (t : FrameTiming) (now : Nat) :
    (t.accept now).schedule = t.schedule := rfl
@[simp] theorem FrameTiming.accept_gateOpen (t : FrameTiming) (now : Nat) :
    (t.accept now).gateOpen = t.gateOpen := rfl
@[simp] theorem FrameTiming.accept_hold (t : FrameTiming) (now : Nat) :
    (t.accept now).hold = t.hold := rfl
@[simp] theorem FrameTiming.accept_fsync (t : FrameTiming) (now : Nat) :
    (t.accept now).fsync = t.fsync := rfl
@[simp] theorem FrameTiming.restore_edgeRef (t : FrameTiming) (now : Nat) :
    (t.restore now).edgeRef = some now := rfl
@[simp] theorem FrameTiming.restore_tf (t : FrameTiming) (now : Nat) :
    (t.restore now).tf = t.tf := rfl
@[simp] theorem FrameTiming.restore_lossTimer (t : FrameTiming) (now : Nat) :
    (t.restore now).lossTimer = some now := rfl
@[simp] theorem FrameTiming.restore_freeRun (t : FrameTiming) (now : Nat) :
    (t.restore now).freeRun = .off := rfl
@[simp] theorem FrameTiming.restore_schedule (t : FrameTiming) (now : Nat) :
    (t.restore now).schedule = t.schedule := rfl
@[simp] theorem FrameTiming.restore_gateOpen (t : FrameTiming) (now : Nat) :
    (t.restore now).gateOpen = t.gateOpen := rfl
@[simp] theorem FrameTiming.restore_hold (t : FrameTiming) (now : Nat) :
    (t.restore now).hold = t.hold := rfl
@[simp] theorem FrameTiming.restore_fsync (t : FrameTiming) (now : Nat) :
    (t.restore now).fsync = t.fsync := rfl
@[simp] theorem FrameTiming.holdRise_tf (t : FrameTiming) (op : OpState) :
    (t.holdRise op).tf = t.tf := by
  unfold FrameTiming.holdRise; (repeat' split) <;> rfl
@[simp] theorem FrameTiming.holdRise_schedule (t : FrameTiming) (op : OpState) :
    (t.holdRise op).schedule = t.schedule := by
  unfold FrameTiming.holdRise; (repeat' split) <;> rfl
@[simp] theorem FrameTiming.holdRise_gateOpen (t : FrameTiming) (op : OpState) :
    (t.holdRise op).gateOpen = t.gateOpen := by
  unfold FrameTiming.holdRise; (repeat' split) <;> rfl
@[simp] theorem FrameTiming.holdRise_fsync (t : FrameTiming) (op : OpState) :
    (t.holdRise op).fsync = t.fsync := by
  unfold FrameTiming.holdRise; (repeat' split) <;> rfl
@[simp] theorem FrameTiming.holdRise_hold (t : FrameTiming) (op : OpState) :
    (t.holdRise op).hold = true := by
  unfold FrameTiming.holdRise; (repeat' split) <;> rfl
@[simp] theorem FrameTiming.holdFall_tf (t : FrameTiming) (op : OpState) (now : Nat) :
    (t.holdFall op now).tf = t.tf := by
  unfold FrameTiming.holdFall; (repeat' split) <;> rfl
@[simp] theorem FrameTiming.holdFall_schedule (t : FrameTiming) (op : OpState) (now : Nat) :
    (t.holdFall op now).schedule = t.schedule := by
  unfold FrameTiming.holdFall; (repeat' split) <;> rfl
@[simp] theorem FrameTiming.holdFall_gateOpen (t : FrameTiming) (op : OpState) (now : Nat) :
    (t.holdFall op now).gateOpen = t.gateOpen := by
  unfold FrameTiming.holdFall; (repeat' split) <;> rfl
@[simp] theorem FrameTiming.holdFall_fsync (t : FrameTiming) (op : OpState) (now : Nat) :
    (t.holdFall op now).fsync = t.fsync := by
  unfold FrameTiming.holdFall; (repeat' split) <;> rfl
@[simp] theorem FrameTiming.holdFall_hold (t : FrameTiming) (op : OpState) (now : Nat) :
    (t.holdFall op now).hold = false := by
  unfold FrameTiming.holdFall; (repeat' split) <;> rfl
@[simp] theorem MapBanks.powerOn_active (held : Bank) :
    (MapBanks.powerOn held).active = .reset .zero := rfl
@[simp] theorem MapBanks.powerOn_pendingBank (held : Bank) :
    (MapBanks.powerOn held).pendingBank = { held with tag := .zero } := rfl
@[simp] theorem MapBanks.powerOn_pend (held : Bank) :
    (MapBanks.powerOn held).pend = .empty := rfl
@[simp] theorem MapBanks.powerOn_source (held : Bank) :
    (MapBanks.powerOn held).source = .ordinary := rfl
@[simp] theorem DriverTable.put_round (d : DriverTable) (i : Nat) (e : Option DriverEntry) :
    (d.put i e).round = d.round := rfl
@[simp] theorem DriverTable.put_rotation (d : DriverTable) (i : Nat) (e : Option DriverEntry) :
    (d.put i e).rotation = d.rotation := rfl
@[simp] theorem DriverTable.put_discovery (d : DriverTable) (i : Nat) (e : Option DriverEntry) :
    (d.put i e).discovery = d.discovery := rfl
@[simp] theorem DriverTable.put_probes (d : DriverTable) (i : Nat) (e : Option DriverEntry) :
    (d.put i e).probes = d.probes := rfl
@[simp] theorem DriverTable.mapEntries_round (d : DriverTable) (f : DriverEntry → DriverEntry) :
    (d.mapEntries f).round = d.round := rfl
@[simp] theorem DriverTable.mapEntries_rotation (d : DriverTable) (f : DriverEntry → DriverEntry) :
    (d.mapEntries f).rotation = d.rotation := rfl
@[simp] theorem DriverTable.mapEntries_discovery (d : DriverTable) (f : DriverEntry → DriverEntry) :
    (d.mapEntries f).discovery = d.discovery := rfl
@[simp] theorem DriverTable.mapEntries_probes (d : DriverTable) (f : DriverEntry → DriverEntry) :
    (d.mapEntries f).probes = d.probes := rfl
@[simp] theorem DriverTable.endRound_round (d : DriverTable) :
    (d.endRound).round = none := rfl
@[simp] theorem DriverTable.endRound_rotation (d : DriverTable) :
    (d.endRound).rotation = d.rotation := rfl
@[simp] theorem DriverTable.endRound_discovery (d : DriverTable) :
    (d.endRound).discovery = d.discovery := rfl
@[simp] theorem DriverTable.endRound_probes (d : DriverTable) :
    (d.endRound).probes = d.probes := rfl
@[simp] theorem DriverTable.endWork_round (d : DriverTable) :
    (d.endWork).round = none := rfl
@[simp] theorem DriverTable.endWork_rotation (d : DriverTable) :
    (d.endWork).rotation = d.rotation := rfl
@[simp] theorem DriverTable.endWork_discovery (d : DriverTable) :
    (d.endWork).discovery = none := rfl
@[simp] theorem DriverTable.endWork_probes (d : DriverTable) :
    (d.endWork).probes = [] := rfl
@[simp] theorem DriverTable.openRound_round (d : DriverTable) :
    (d.openRound).round = some d.shippable := rfl
@[simp] theorem DriverTable.openRound_rotation (d : DriverTable) :
    (d.openRound).rotation = d.rotation := rfl
@[simp] theorem DriverTable.openRound_discovery (d : DriverTable) :
    (d.openRound).discovery = d.discovery := rfl
@[simp] theorem DriverTable.openRound_probes (d : DriverTable) :
    (d.openRound).probes = d.probes := rfl
@[simp] theorem MapBanks.clearActive_active (b : MapBanks) :
    (b.clearActive).active = Bank.reset b.active.tag := rfl
@[simp] theorem MapBanks.clearActive_pendingBank (b : MapBanks) :
    (b.clearActive).pendingBank = b.pendingBank := rfl
@[simp] theorem MapBanks.clearActive_pend (b : MapBanks) :
    (b.clearActive).pend = b.pend := rfl
@[simp] theorem MapBanks.clearActive_source (b : MapBanks) :
    (b.clearActive).source = b.source := rfl
@[simp] theorem MapBanks.discard_active (b : MapBanks) :
    (b.discard).active = b.active := rfl
@[simp] theorem MapBanks.discard_pendingBank (b : MapBanks) :
    (b.discard).pendingBank = b.pendingBank := rfl
@[simp] theorem MapBanks.discard_pend (b : MapBanks) :
    (b.discard).pend = .empty := rfl
@[simp] theorem MapBanks.discard_source (b : MapBanks) :
    (b.discard).source = b.source := rfl
@[simp] theorem Solver.void_phase (v : Solver) :
    (v.void).phase = v.phase := rfl
@[simp] theorem Solver.void_kind (v : Solver) :
    (v.void).kind = v.kind := rfl
@[simp] theorem Solver.void_voided (v : Solver) :
    (v.void).voided = (v.voided || decide (v.phase ≠ .idle)) := rfl
@[simp] theorem Solver.void_cursor (v : Solver) :
    (v.void).cursor = v.cursor := rfl
@[simp] theorem Solver.void_startTime (v : Solver) :
    (v.void).startTime = v.startTime := rfl
@[simp] theorem Solver.void_params (v : Solver) :
    (v.void).params = v.params := rfl
@[simp] theorem Solver.void_snapshot (v : Solver) :
    (v.void).snapshot = v.snapshot := rfl
@[simp] theorem Solver.void_sums (v : Solver) :
    (v.void).sums = v.sums := rfl
@[simp] theorem Solver.void_inputs (v : Solver) :
    (v.void).inputs = v.inputs := rfl
@[simp] theorem Solver.void_factors (v : Solver) :
    (v.void).factors = v.factors := rfl
@[simp] theorem ZoneStore.regrid_cols (z : ZoneStore) (c r : Nat) :
    (z.regrid c r).cols = c := rfl
@[simp] theorem ZoneStore.regrid_rows (z : ZoneStore) (c r : Nat) :
    (z.regrid c r).rows = r := rfl
@[simp] theorem ZoneStore.regrid_storeOpen (z : ZoneStore) (c r : Nat) :
    (z.regrid c r).storeOpen = z.storeOpen := rfl
@[simp] theorem ZoneStore.regrid_liveSet (z : ZoneStore) (c r : Nat) :
    (z.regrid c r).liveSet = z.liveSet := rfl
@[simp] theorem ZoneStore.regrid_locks (z : ZoneStore) (c r : Nat) :
    (z.regrid c r).locks = z.locks := rfl

end Sys2Proof.Machine
end

