-- ==== Sys2Proof/Laws/Store.lean ====
section
/-! SUPPORT. What reading and writing a table does: read after write, and the canonical form kept. -/

namespace Sys2Proof.Machine

variable {α β : Type}

theorem findCell_insertCell (d : α) (l : List (Nat × α)) (i j : Nat) (v : α) :
    findCell d (insertCell i v l) j = if j = i then v else findCell d l j := by
  induction l with
  | nil => simp [insertCell, findCell]
  | cons c t ih =>
    obtain ⟨k, w⟩ := c
    by_cases h1 : i < k
    · simp [insertCell, findCell, h1]
    · by_cases h2 : i = k
      · subst h2
        by_cases h : j = i <;> simp [insertCell, findCell, h]
      · by_cases h : j = k
        · have : ¬ j = i := fun e => h2 (e ▸ h)
          have : ¬ k = i := fun e => h2 e.symm
          simp [insertCell, findCell, h1, h2, h, this]
        · simp [insertCell, findCell, h1, h2, h, ih]

theorem findCell_removeCell (d : α) (l : List (Nat × α)) (i j : Nat) :
    findCell d (removeCell i l) j = if j = i then d else findCell d l j := by
  induction l with
  | nil => simp [removeCell, findCell]
  | cons c t ih =>
    obtain ⟨k, w⟩ := c
    by_cases h : i = k
    · subst h
      rw [removeCell, if_pos rfl, ih]
      by_cases hj : j = i <;> simp [findCell, hj]
    · by_cases hj : j = k
      · have : ¬ k = i := fun e => h e.symm
        simp [removeCell, findCell, h, hj, this]
      · simp [removeCell, findCell, h, hj, ih]

/-- Read after write. -/
@[simp] theorem Store.get_set [DecidableEq α] (d : α) (m : Store α) (i j : Nat) (v : α) :
    (m.set d i v).get d j = if j = i then v else m.get d j := by
  unfold Store.set Store.get
  by_cases h : v = d
  · subst h
    simp [findCell_removeCell]
  · simp [h, findCell_insertCell]

/-- An empty table holds its default everywhere. -/
@[simp] theorem Store.get_empty (d : α) (i : Nat) : (⟨[]⟩ : Store α).get d i = d := rfl

/-- What a rewritten table holds. -/
@[simp] theorem Store.get_update [DecidableEq α] (d : α) (f : Nat → α → α) (m : Store α) (n j : Nat) :
    (m.update d f n).get d j = if j < n then f j (m.get d j) else m.get d j := by
  induction n generalizing j with
  | zero => simp [Store.update]
  | succ n ih =>
    rw [Store.update, Store.get_set, ih, ih]
    by_cases h : j = n
    · subst h
      simp
    · by_cases h' : j < n
      · simp [h, h', Nat.lt_succ_of_lt h']
      · have : ¬ j < n + 1 := by omega
        simp [h, h', this]

/-- What a filled table holds. -/
@[simp] theorem Store.get_fill [DecidableEq α] (d : α) (m : Store α) (first last j : Nat) (v : α) :
    (m.fill d first last v).get d j = if first ≤ j ∧ j ≤ last then v else m.get d j := by
  unfold Store.fill
  rw [Store.get_update]
  by_cases h : j < last + 1
  · simp [h]
  · have : ¬ (first ≤ j ∧ j ≤ last) := by omega
    simp [h, this]

theorem mem_insertCell {i : Nat} {v : α} {l : List (Nat × α)} {c : Nat × α} (h : c ∈ insertCell i v l) :
    c = (i, v) ∨ c ∈ l := by
  induction l with
  | nil => simpa [insertCell] using h
  | cons x t ih =>
    obtain ⟨k, w⟩ := x
    unfold insertCell at h
    split at h
    · simpa using h
    · split at h
      · rcases List.mem_cons.mp h with h | h
        · exact .inl h
        · exact .inr (List.mem_cons_of_mem _ h)
      · rcases List.mem_cons.mp h with h | h
        · exact .inr (h ▸ List.mem_cons_self)
        · rcases ih h with h | h
          · exact .inl h
          · exact .inr (List.mem_cons_of_mem _ h)

theorem mem_removeCell {i : Nat} {l : List (Nat × α)} {c : Nat × α} (h : c ∈ removeCell i l) : c ∈ l := by
  induction l with
  | nil => simp [removeCell] at h
  | cons x t ih =>
    obtain ⟨k, w⟩ := x
    unfold removeCell at h
    split at h
    · exact List.mem_cons_of_mem _ (ih h)
    · rcases List.mem_cons.mp h with h | h
      · exact h ▸ List.mem_cons_self
      · exact List.mem_cons_of_mem _ (ih h)

theorem pairwise_insertCell {i : Nat} {v : α} {l : List (Nat × α)}
    (h : l.Pairwise (fun a b => a.1 < b.1)) : (insertCell i v l).Pairwise (fun a b => a.1 < b.1) := by
  induction l with
  | nil => simp [insertCell]
  | cons x t ih =>
    obtain ⟨k, w⟩ := x
    obtain ⟨h1, h2⟩ := List.pairwise_cons.mp h
    unfold insertCell
    split
    · next lt =>
      refine List.pairwise_cons.mpr ⟨fun c hc => ?_, h⟩
      rcases List.mem_cons.mp hc with rfl | hc
      · exact lt
      · exact Nat.lt_trans lt (h1 c hc)
    · split
      · next e =>
        subst e
        exact List.pairwise_cons.mpr ⟨h1, h2⟩
      · next nlt ne =>
        refine List.pairwise_cons.mpr ⟨fun c hc => ?_, ih h2⟩
        rcases mem_insertCell hc with rfl | hc
        · exact Nat.lt_of_le_of_ne (Nat.not_lt.mp nlt) (Ne.symm ne)
        · exact h1 c hc

theorem pairwise_removeCell {i : Nat} {l : List (Nat × α)} (h : l.Pairwise (fun a b => a.1 < b.1)) :
    (removeCell i l).Pairwise (fun a b => a.1 < b.1) := by
  induction l with
  | nil => simp [removeCell]
  | cons x t ih =>
    obtain ⟨k, w⟩ := x
    obtain ⟨h1, h2⟩ := List.pairwise_cons.mp h
    unfold removeCell
    split
    · exact ih h2
    · exact List.pairwise_cons.mpr ⟨fun c hc => h1 c (mem_removeCell hc), ih h2⟩

/-- The empty table is canonical. -/
@[simp] theorem Store.wf_empty [DecidableEq α] (d : α) : (⟨[]⟩ : Store α).wf d := by
  simp [Store.wf]

/-- A write keeps the canonical form. -/
theorem Store.wf_set [DecidableEq α] {d : α} {m : Store α} (h : m.wf d) (i : Nat) (v : α) :
    (m.set d i v).wf d := by
  unfold Store.set
  split
  · exact ⟨pairwise_removeCell h.1, fun c hc => h.2 c (mem_removeCell hc)⟩
  · next hv =>
    refine ⟨pairwise_insertCell h.1, fun c hc => ?_⟩
    rcases mem_insertCell hc with rfl | hc
    · exact hv
    · exact h.2 c hc

/-- A rewriting keeps the canonical form. -/
theorem Store.wf_update [DecidableEq α] {d : α} {m : Store α} (h : m.wf d) (f : Nat → α → α) (n : Nat) :
    (m.update d f n).wf d := by
  induction n with
  | zero => exact h
  | succ n ih => exact Store.wf_set ih _ _

/-- Filling keeps the canonical form. -/
theorem Store.wf_fill [DecidableEq α] {d : α} {m : Store α} (h : m.wf d) (first last : Nat) (v : α) :
    (m.fill d first last v).wf d := Store.wf_update h _ _

theorem findCell_mapOption (f : α → β) (l : List (Nat × Option α)) (i : Nat) :
    findCell none (l.map fun c => (c.1, c.2.map f)) i = (findCell none l i).map f := by
  induction l with
  | nil => rfl
  | cons c t ih =>
    by_cases h : i = c.1 <;> simp [findCell, h, ih]

/-- Rewriting every present entry keeps the canonical form. -/
theorem Store.wf_mapOption [DecidableEq α] {m : Store (Option α)} (h : m.wf none) (f : α → α) :
    (⟨m.cells.map fun c => (c.1, c.2.map f)⟩ : Store (Option α)).wf none := by
  refine ⟨List.pairwise_map.mpr h.1, fun c hc => ?_⟩
  obtain ⟨x, hx, rfl⟩ := List.mem_map.mp hc
  have := h.2 x hx
  simpa using this

/-! ### Domains -/

/-- Read after write of a domain's value. -/
@[simp] theorem PerDomain.get_set (p : PerDomain α) (d e : Domain) (v : α) :
    (p.set d v).get e = if e = d then v else p.get e := by
  fin_cases d <;> fin_cases e <;> rfl

/-- What a computed value of each domain is. -/
@[simp] theorem PerDomain.get_of (f : Domain → α) (d : Domain) : (PerDomain.of f).get d = f d := by
  fin_cases d <;> rfl

/-- The same value in every domain. -/
@[simp] theorem PerDomain.get_all (v : α) (d : Domain) : (PerDomain.all v).get d = v := by
  fin_cases d <;> rfl

end Sys2Proof.Machine
end

