-- ==== Sys2Proof/Laws/Ops.lean ====
section
/-! SUPPORT. What each shared operation can do, said once: what the tables of drivers hold after it, where a message
stands in the queue, and which parts of the state it leaves alone. -/

namespace Sys2Proof.Machine

open Sys2Proof

/-! ### Driver Table -/

/-- Read after write of an entry. -/
@[simp] theorem DriverTable.entryAt_put (d : DriverTable) (i j : Nat) (e : Option DriverEntry) :
    (d.put i e).entryAt j = if j = i then e else d.entryAt j := Store.get_set none d.entries i j e

/-- Every present entry is rewritten, an absent one stays absent. -/
@[simp] theorem DriverTable.entryAt_mapEntries (d : DriverTable) (f : DriverEntry → DriverEntry) (i : Nat) :
    (d.mapEntries f).entryAt i = (d.entryAt i).map f := findCell_mapOption f d.entries.cells i

/-- The entries do not depend on the other fields of the table. -/
@[simp] theorem DriverTable.entryAt_mk (m : Store (Option DriverEntry)) (a : Option (List Nat))
    (b c : Option Nat) (p : List Nat) (i : Nat) :
    (⟨m, a, b, c, p⟩ : DriverTable).entryAt i = m.get none i := rfl

/-- The table's entries by index. -/
theorem DriverTable.get_entries (d : DriverTable) (i : Nat) : d.entries.get none i = d.entryAt i := rfl

@[simp] theorem DriverTable.get_put (d : DriverTable) (i j : Nat) (e : Option DriverEntry) :
    (d.put i e).entries.get none j = if j = i then e else d.entryAt j := Store.get_set none d.entries i j e

@[simp] theorem DriverTable.get_mapEntries (d : DriverTable) (f : DriverEntry → DriverEntry) (i : Nat) :
    (d.mapEntries f).entries.get none i = (d.entryAt i).map f := findCell_mapOption f d.entries.cells i

@[simp] theorem DriverTable.entryAt_endRound (d : DriverTable) (i : Nat) :
    d.endRound.entryAt i = (d.entryAt i).map DriverEntry.roundCleared := d.entryAt_mapEntries _ i

@[simp] theorem DriverTable.entryAt_endWork (d : DriverTable) (i : Nat) :
    d.endWork.entryAt i = (d.entryAt i).map DriverEntry.roundCleared := d.entryAt_mapEntries _ i

@[simp] theorem DriverTable.entryAt_openRound (d : DriverTable) (i : Nat) :
    d.openRound.entryAt i =
      (d.entryAt i).map fun e => { e with attempts := if e.shippable then 0 else e.attempts, failed := false } :=
  d.entryAt_mapEntries _ i

/-- The present entries are those of the 48 indices that hold one. -/
theorem DriverTable.mem_present (d : DriverTable) (i : Nat) (e : DriverEntry) :
    (i, e) ∈ d.present ↔ i < 48 ∧ d.entryAt i = some e := by
  simp [DriverTable.present, List.mem_filterMap, Config.drivers]

/-- The shippable indices. -/
theorem DriverTable.mem_shippable (d : DriverTable) (i : Nat) :
    i ∈ d.shippable ↔ i < 48 ∧ ∃ e, d.entryAt i = some e ∧ e.shippable = true := by
  simp only [DriverTable.shippable, List.mem_map, List.mem_filter, Prod.exists, DriverTable.mem_present]
  constructor
  · rintro ⟨j, e, ⟨⟨h1, h2⟩, h3⟩, rfl⟩
    exact ⟨h1, e, h2, h3⟩
  · rintro ⟨h1, e, h2, h3⟩
    exact ⟨i, e, ⟨⟨h1, h2⟩, h3⟩, rfl⟩

/-- Opening a round does not move who is shippable (R109). -/
@[simp] theorem DriverTable.shippable_openRound (d : DriverTable) : d.openRound.shippable = d.shippable := by
  simp only [DriverTable.shippable, DriverTable.present, DriverTable.entryAt_openRound, List.filter_filterMap,
    List.map_filterMap]
  refine List.filterMap_congr fun i _ => ?_
  cases d.entryAt i <;> simp [DriverEntry.shippable, Option.filter]

/-- With no entry to ship to, the rotation has none to read (R115). -/
theorem DriverTable.nextRotation_none {d : DriverTable} (h : d.shippable = []) : d.nextRotation = none := by
  unfold DriverTable.nextRotation
  rw [List.find?_eq_none]
  intro i hi
  obtain ⟨k, _, hk⟩ := List.mem_map.mp hi
  have hlt : i < 48 := by rw [← hk]; exact Nat.mod_lt _ (by decide)
  cases he : d.entryAt i with
  | none => simp
  | some e =>
    intro hs
    have := (d.mem_shippable i).mpr ⟨hlt, e, he, hs⟩
    simp [h] at this

/-- The zones of a tile, row by row: zone `k` stands in row `k / width` and column `k % width` of the tile (R110). -/
theorem Tile.zones_eq (t : Tile) (cols : Nat) :
    t.zones cols =
      (List.range (t.width * t.height)).map fun k => (t.row + k / t.width) * cols + (t.col + k % t.width) := by
  obtain ⟨col, row, width, height⟩ := t
  unfold Tile.zones zoneIndex
  induction height with
  | zero => rfl
  | succ h ih =>
    simp only at ih ⊢
    rw [List.range_succ, List.flatMap_append, ih, Nat.mul_succ, List.range_add, List.map_append, List.map_map]
    simp only [List.flatMap_cons, List.flatMap_nil, List.append_nil, List.append_cancel_left_eq]
    refine List.map_congr_left fun x hx => ?_
    have hx := List.mem_range.mp hx
    simp [Nat.mul_add_div (by omega : 0 < width), Nat.div_eq_of_lt hx, Nat.mod_eq_of_lt hx]

/-- An owner is a present entry whose tile holds the zone. -/
theorem DriverTable.owner_some {d : DriverTable} {c r i : Nat} {e : DriverEntry} (h : d.owner c r = some (i, e)) :
    i < 48 ∧ d.entryAt i = some e ∧ e.tile.contains c r = true := by
  unfold DriverTable.owner at h
  have h1 := (d.mem_present i e).mp (List.mem_of_find?_eq_some h)
  have h2 : e.tile.contains c r = true := by simpa using List.find?_some h
  exact ⟨h1.1, h1.2, h2⟩

/-- A zone without an owner lies in no tile. -/
theorem DriverTable.owner_none {d : DriverTable} {c r : Nat} (h : d.owner c r = none) {i : Nat} {e : DriverEntry}
    (hi : i < 48) (he : d.entryAt i = some e) : e.tile.contains c r = false := by
  unfold DriverTable.owner at h
  simpa using List.find?_eq_none.mp h (i, e) ((d.mem_present i e).mpr ⟨hi, he⟩)

/-- The entry of an address is a present entry with that address. -/
theorem DriverTable.byAddr_some {d : DriverTable} {a i : Nat} {e : DriverEntry} (h : d.byAddr a = some (i, e)) :
    i < 48 ∧ d.entryAt i = some e ∧ e.addr = a := by
  unfold DriverTable.byAddr at h
  have h1 := (d.mem_present i e).mp (List.mem_of_find?_eq_some h)
  have h2 : e.addr = a := by simpa using List.find?_some h
  exact ⟨h1.1, h1.2, h2⟩

/-- An address without an entry is no entry's. -/
theorem DriverTable.byAddr_none {d : DriverTable} {a : Nat} (h : d.byAddr a = none) {i : Nat} {e : DriverEntry}
    (hi : i < 48) (he : d.entryAt i = some e) : e.addr ≠ a := by
  unfold DriverTable.byAddr at h
  simpa using List.find?_eq_none.mp h (i, e) ((d.mem_present i e).mpr ⟨hi, he⟩)

/-! ### Zone Store and banks -/

@[simp] theorem Bank.zone_putZone (b : Bank) (i j : Nat) (r : ZoneRecord) :
    (b.putZone i r).zone j = if j = i then r else b.zone j :=
  Store.get_set ZoneRecord.reset b.zones i j r

@[simp] theorem Bank.domains_putZone (b : Bank) (i : Nat) (r : ZoneRecord) : (b.putZone i r).domains = b.domains := rfl

@[simp] theorem Bank.tag_putZone (b : Bank) (i : Nat) (r : ZoneRecord) : (b.putZone i r).tag = b.tag := rfl

@[simp] theorem Bank.zone_reset (t : Tag) (i : Nat) : (Bank.reset t).zone i = .reset := rfl

/-- Read after write of a gain. -/
@[simp] theorem ZoneStore.gainAt_putGain (z : ZoneStore) (g h : GainSet) (i j : Nat) (v : Gain) :
    (z.putGain g i v).gainAt h j = if h = g ∧ j = i then v else z.gainAt h j := by
  cases g <;> cases h <;> simp [ZoneStore.putGain, ZoneStore.gainAt]

/-- A gain written changes the gain tables alone. -/
theorem ZoneStore.putGain_frame (z : ZoneStore) (g : GainSet) (i : Nat) (v : Gain) :
    z.putGain g i v = { z with gainA := (z.putGain g i v).gainA, gainB := (z.putGain g i v).gainB } := by
  cases g <;> rfl

/-- Gains written change the gain tables alone. -/
theorem ZoneStore.putGains_frame (z : ZoneStore) (g : GainSet) (l : List (Nat × Gain)) :
    z.putGains g l = { z with gainA := (z.putGains g l).gainA, gainB := (z.putGains g l).gainB } := by
  induction l generalizing z with
  | nil => rfl
  | cons c t ih =>
    rw [ZoneStore.putGains, ih, z.putGain_frame]

/-- A gain that no write visits, or of the other set, is as it was. -/
theorem ZoneStore.gainAt_putGains_other (z : ZoneStore) (g h : GainSet) (l : List (Nat × Gain)) (j : Nat)
    (hj : h ≠ g ∨ ∀ c ∈ l, c.1 ≠ j) : (z.putGains g l).gainAt h j = z.gainAt h j := by
  induction l generalizing z with
  | nil => rfl
  | cons c t ih =>
    rw [ZoneStore.putGains, ih _ (hj.imp_right fun x c' hc => x c' (List.mem_cons_of_mem _ hc)),
      ZoneStore.gainAt_putGain, if_neg]
    rintro ⟨rfl, rfl⟩
    rcases hj with hj | hj
    · exact hj rfl
    · exact hj c List.mem_cons_self rfl

/-! ### Transmit queue -/

/-- A message stands behind the messages of its class or a higher one that lead the queue, and before the rest. -/
theorem enqueue_eq (m : Message) (q : List Message) :
    enqueue m q = q.takeWhile (fun x => !decide (m.cls < x.cls)) ++ m :: q.dropWhile (fun x => !decide (m.cls < x.cls)) := by
  induction q with
  | nil => rfl
  | cons x t ih =>
    by_cases h : m.cls < x.cls <;> simp [enqueue, h, ih]

/-- The queue gains the message and nothing else. -/
@[simp] theorem mem_enqueue {m x : Message} {q : List Message} : x ∈ enqueue m q ↔ x = m ∨ x ∈ q := by
  induction q with
  | nil => simp [enqueue]
  | cons y t ih =>
    unfold enqueue
    split
    · simp
    · simp only [List.mem_cons, ih]
      tauto

/-- The queue gains the message once. -/
theorem enqueue_perm (m : Message) (q : List Message) : (enqueue m q).Perm (m :: q) := by
  rw [enqueue_eq]
  refine List.perm_middle.trans (List.Perm.cons _ ?_)
  rw [List.takeWhile_append_dropWhile]

/-- Messages added one after the other change the queue alone. -/
theorem Link.sendAll_frame (l : Link) (ms : List Message) : l.sendAll ms = { l with queue := (l.sendAll ms).queue } := by
  induction ms generalizing l with
  | nil => rfl
  | cons m t ih =>
    rw [Link.sendAll, ih]
    rfl

/-- The queue gains all of the messages and nothing else. -/
theorem Link.mem_sendAll (l : Link) (ms : List Message) (x : Message) :
    x ∈ (l.sendAll ms).queue ↔ x ∈ ms ∨ x ∈ l.queue := by
  induction ms generalizing l with
  | nil => simp [Link.sendAll]
  | cons m t ih =>
    rw [Link.sendAll, ih]
    simp only [Link.send_queue, mem_enqueue, List.mem_cons]
    tauto

/-- Messages added to the queue leave every other field. -/
@[simp] theorem Link.sendAll_keeps (l : Link) (ms : List Message) :
    (l.sendAll ms).line = l.line
      ∧ (l.sendAll ms).idlePeriods = l.idlePeriods
      ∧ (l.sendAll ms).resetGap = l.resetGap
      ∧ (l.sendAll ms).resend = l.resend
      ∧ (l.sendAll ms).rate = l.rate
      ∧ (l.sendAll ms).lineRate = l.lineRate
      ∧ (l.sendAll ms).mode = l.mode
      ∧ (l.sendAll ms).lineMode = l.lineMode
     ∧ (l.sendAll ms).modeMoved = l.modeMoved
      ∧ (l.sendAll ms).pollInterval = l.pollInterval
      ∧ (l.sendAll ms).pollTimer = l.pollTimer
      ∧ (l.sendAll ms).attentionHold = l.attentionHold := by
  rw [l.sendAll_frame]
  simp

/-! ### What each operation of the whole device leaves alone -/

/-- `mapShipped` keeps all but what it is for: the map SHIPPED and the rotation READ queued, nothing else (R74, R115). -/
@[simp] theorem State.mapShipped_keeps (s : State) :
   s.mapShipped.now = s.now ∧ s.mapShipped.zone = s.zone ∧ s.mapShipped.solver = s.solver
     ∧ s.mapShipped.banks.active = s.banks.active ∧ s.mapShipped.banks.pendingBank = s.banks.pendingBank
     ∧ s.mapShipped.banks.source = s.banks.source ∧ s.mapShipped.timing = s.timing
     ∧ s.mapShipped.drivers.entries = s.drivers.entries ∧ s.mapShipped.drivers.round = s.drivers.round
     ∧ s.mapShipped.drivers.discovery = s.drivers.discovery ∧ s.mapShipped.drivers.probes = s.drivers.probes
     ∧ s.mapShipped.link.line = s.link.line ∧ s.mapShipped.link.idlePeriods = s.link.idlePeriods
     ∧ s.mapShipped.link.resetGap = s.link.resetGap ∧ s.mapShipped.link.resend = s.link.resend
     ∧ s.mapShipped.link.rate = s.link.rate ∧ s.mapShipped.link.lineRate = s.link.lineRate
     ∧ s.mapShipped.link.mode = s.link.mode ∧ s.mapShipped.link.lineMode = s.link.lineMode
     ∧ s.mapShipped.link.modeMoved = s.link.modeMoved
     ∧ s.mapShipped.link.pollInterval = s.link.pollInterval ∧ s.mapShipped.link.pollTimer = s.link.pollTimer
     ∧ s.mapShipped.link.attentionHold = s.link.attentionHold ∧ s.mapShipped.thermal = s.thermal
     ∧ s.mapShipped.events = s.events ∧ s.mapShipped.picture = s.picture ∧ s.mapShipped.sup = s.sup
     ∧ s.mapShipped.pending = s.pending := by
  and_intros <;> (
    unfold State.mapShipped; split <;> try rfl
    dsimp only
    split <;> try rfl
    split <;> try rfl
    split <;> rfl)

/-- `continueRound` keeps all but what it is for: the next LEVEL queued, or the map SHIPPED, nothing else (R109, R110). -/
@[simp] theorem State.continueRound_keeps (s : State) :
   s.continueRound.now = s.now ∧ s.continueRound.zone = s.zone ∧ s.continueRound.solver = s.solver
     ∧ s.continueRound.banks.active = s.banks.active ∧ s.continueRound.banks.pendingBank = s.banks.pendingBank
     ∧ s.continueRound.banks.source = s.banks.source ∧ s.continueRound.timing = s.timing
     ∧ s.continueRound.drivers.entries = s.drivers.entries ∧ s.continueRound.drivers.round = s.drivers.round
     ∧ s.continueRound.drivers.discovery = s.drivers.discovery
     ∧ s.continueRound.drivers.probes = s.drivers.probes ∧ s.continueRound.link.line = s.link.line
     ∧ s.continueRound.link.idlePeriods = s.link.idlePeriods ∧ s.continueRound.link.resetGap = s.link.resetGap
     ∧ s.continueRound.link.resend = s.link.resend ∧ s.continueRound.link.rate = s.link.rate
     ∧ s.continueRound.link.lineRate = s.link.lineRate ∧ s.continueRound.link.mode = s.link.mode
     ∧ s.continueRound.link.lineMode = s.link.lineMode
     ∧ s.continueRound.link.modeMoved = s.link.modeMoved ∧ s.continueRound.link.pollInterval = s.link.pollInterval
     ∧ s.continueRound.link.pollTimer = s.link.pollTimer
     ∧ s.continueRound.link.attentionHold = s.link.attentionHold ∧ s.continueRound.thermal = s.thermal
     ∧ s.continueRound.events = s.events ∧ s.continueRound.picture = s.picture ∧ s.continueRound.sup = s.sup
     ∧ s.continueRound.pending = s.pending := by
  and_intros <;> (
    unfold State.continueRound; split
    · split <;> rfl
    · simp
    · rfl)

/-- `beginRound` keeps all but what it is for: a round begun, nothing else (R109). -/
@[simp] theorem State.beginRound_keeps (s : State) :
   s.beginRound.now = s.now ∧ s.beginRound.zone = s.zone ∧ s.beginRound.solver = s.solver
     ∧ s.beginRound.banks.active = s.banks.active ∧ s.beginRound.banks.pendingBank = s.banks.pendingBank
     ∧ s.beginRound.banks.source = s.banks.source ∧ s.beginRound.timing = s.timing
     ∧ s.beginRound.drivers.discovery = s.drivers.discovery ∧ s.beginRound.drivers.probes = s.drivers.probes
     ∧ s.beginRound.link.line = s.link.line ∧ s.beginRound.link.idlePeriods = s.link.idlePeriods
     ∧ s.beginRound.link.resetGap = s.link.resetGap ∧ s.beginRound.link.resend = s.link.resend
     ∧ s.beginRound.link.rate = s.link.rate ∧ s.beginRound.link.lineRate = s.link.lineRate
     ∧ s.beginRound.link.mode = s.link.mode ∧ s.beginRound.link.lineMode = s.link.lineMode
     ∧ s.beginRound.link.modeMoved = s.link.modeMoved
     ∧ s.beginRound.link.pollInterval = s.link.pollInterval ∧ s.beginRound.link.pollTimer = s.link.pollTimer
     ∧ s.beginRound.link.attentionHold = s.link.attentionHold ∧ s.beginRound.thermal = s.thermal
     ∧ s.beginRound.events = s.events ∧ s.beginRound.picture = s.picture ∧ s.beginRound.sup = s.sup
     ∧ s.beginRound.pending = s.pending := by
  and_intros <;> (
    unfold State.beginRound; split <;> simp)

/-- `bandEnded` keeps all but what it is for: the count of ended bands, or the gate opened and a round begun (R91, R109). -/
@[simp] theorem State.bandEnded_keeps (s : State) :
   s.bandEnded.now = s.now ∧ s.bandEnded.zone = s.zone ∧ s.bandEnded.solver = s.solver
     ∧ s.bandEnded.banks.active = s.banks.active ∧ s.bandEnded.banks.pendingBank = s.banks.pendingBank
     ∧ s.bandEnded.banks.source = s.banks.source ∧ s.bandEnded.timing.edgeRef = s.timing.edgeRef
     ∧ s.bandEnded.timing.tf = s.timing.tf ∧ s.bandEnded.timing.lossTimer = s.timing.lossTimer
     ∧ s.bandEnded.timing.freeRun = s.timing.freeRun ∧ s.bandEnded.timing.hold = s.timing.hold
     ∧ s.bandEnded.timing.fsync = s.timing.fsync
     ∧ s.bandEnded.drivers.discovery = s.drivers.discovery ∧ s.bandEnded.drivers.probes = s.drivers.probes
     ∧ s.bandEnded.link.line = s.link.line ∧ s.bandEnded.link.idlePeriods = s.link.idlePeriods
     ∧ s.bandEnded.link.resetGap = s.link.resetGap ∧ s.bandEnded.link.resend = s.link.resend
     ∧ s.bandEnded.link.rate = s.link.rate ∧ s.bandEnded.link.lineRate = s.link.lineRate
     ∧ s.bandEnded.link.mode = s.link.mode ∧ s.bandEnded.link.lineMode = s.link.lineMode
     ∧ s.bandEnded.link.modeMoved = s.link.modeMoved
     ∧ s.bandEnded.link.pollInterval = s.link.pollInterval ∧ s.bandEnded.link.pollTimer = s.link.pollTimer
     ∧ s.bandEnded.link.attentionHold = s.link.attentionHold ∧ s.bandEnded.thermal = s.thermal
     ∧ s.bandEnded.events = s.events ∧ s.bandEnded.picture = s.picture ∧ s.bandEnded.sup = s.sup
     ∧ s.bandEnded.pending = s.pending := by
  and_intros <;> (
    unfold State.bandEnded; split <;> try rfl
    split <;> simp)

/-- `solveEnd` keeps all but what it is for: the map SOLVED or discarded, and a round begun (R40, R41, R46). -/
@[simp] theorem State.solveEnd_keeps (s : State) :
   s.solveEnd.now = s.now ∧ s.solveEnd.zone = s.zone ∧ s.solveEnd.solver.kind = s.solver.kind
     ∧ s.solveEnd.solver.startTime = s.solver.startTime ∧ s.solveEnd.solver.params = s.solver.params
     ∧ s.solveEnd.solver.snapshot = s.solver.snapshot ∧ s.solveEnd.solver.sums = s.solver.sums
     ∧ s.solveEnd.solver.inputs = s.solver.inputs ∧ s.solveEnd.solver.factors = s.solver.factors
     ∧ s.solveEnd.banks.active = s.banks.active ∧ s.solveEnd.banks.source = s.banks.source
     ∧ s.solveEnd.timing = s.timing ∧ s.solveEnd.drivers.discovery = s.drivers.discovery
     ∧ s.solveEnd.drivers.probes = s.drivers.probes ∧ s.solveEnd.link.line = s.link.line
     ∧ s.solveEnd.link.idlePeriods = s.link.idlePeriods ∧ s.solveEnd.link.resetGap = s.link.resetGap
     ∧ s.solveEnd.link.resend = s.link.resend ∧ s.solveEnd.link.rate = s.link.rate
     ∧ s.solveEnd.link.lineRate = s.link.lineRate ∧ s.solveEnd.link.mode = s.link.mode
     ∧ s.solveEnd.link.lineMode = s.link.lineMode
     ∧ s.solveEnd.link.modeMoved = s.link.modeMoved ∧ s.solveEnd.link.pollInterval = s.link.pollInterval
     ∧ s.solveEnd.link.pollTimer = s.link.pollTimer ∧ s.solveEnd.link.attentionHold = s.link.attentionHold
     ∧ s.solveEnd.thermal = s.thermal ∧ s.solveEnd.events = s.events ∧ s.solveEnd.picture = s.picture
     ∧ s.solveEnd.sup = s.sup ∧ s.solveEnd.pending = s.pending := by
  and_intros <;> (
    unfold State.solveEnd; dsimp only; split <;> simp)

/-- `lossSolve` keeps all but what it is for: a loss solve begun, a waiting map superseded (R45, R83). -/
@[simp] theorem State.lossSolve_keeps (s : State) :
   s.lossSolve.now = s.now ∧ s.lossSolve.zone.cols = s.zone.cols ∧ s.lossSolve.zone.rows = s.zone.rows
     ∧ s.lossSolve.zone.demand = s.zone.demand ∧ s.lossSolve.zone.gainA = s.zone.gainA
     ∧ s.lossSolve.zone.gainB = s.zone.gainB ∧ s.lossSolve.zone.liveSet = s.zone.liveSet
     ∧ s.lossSolve.zone.enable = s.zone.enable ∧ s.lossSolve.zone.fault = s.zone.fault
     ∧ s.lossSolve.zone.locks = s.zone.locks ∧ s.lossSolve.banks.active = s.banks.active
     ∧ s.lossSolve.timing = s.timing ∧ s.lossSolve.drivers.rotation = s.drivers.rotation
     ∧ s.lossSolve.drivers.discovery = s.drivers.discovery ∧ s.lossSolve.drivers.probes = s.drivers.probes
     ∧ s.lossSolve.link.idlePeriods = s.link.idlePeriods ∧ s.lossSolve.link.resetGap = s.link.resetGap
     ∧ s.lossSolve.link.resend = s.link.resend ∧ s.lossSolve.link.rate = s.link.rate
     ∧ s.lossSolve.link.lineRate = s.link.lineRate ∧ s.lossSolve.link.mode = s.link.mode
     ∧ s.lossSolve.link.lineMode = s.link.lineMode
     ∧ s.lossSolve.link.modeMoved = s.link.modeMoved ∧ s.lossSolve.link.pollInterval = s.link.pollInterval
     ∧ s.lossSolve.link.pollTimer = s.link.pollTimer ∧ s.lossSolve.link.attentionHold = s.link.attentionHold
     ∧ s.lossSolve.thermal = s.thermal ∧ s.lossSolve.events = s.events
     ∧ s.lossSolve.picture.frame = s.picture.frame ∧ s.lossSolve.sup.op = s.sup.op
     ∧ s.lossSolve.sup.latch = s.sup.latch ∧ s.lossSolve.sup.resume = s.sup.resume
     ∧ s.lossSolve.sup.lastResult = s.sup.lastResult ∧ s.lossSolve.sup.readPointer = s.sup.readPointer
     ∧ s.lossSolve.sup.budgets = s.sup.budgets ∧ s.lossSolve.sup.rise = s.sup.rise
     ∧ s.lossSolve.sup.fall = s.sup.fall ∧ s.lossSolve.sup.derate = s.sup.derate
     ∧ s.lossSolve.sup.scan = s.sup.scan ∧ s.lossSolve.sup.loss = s.sup.loss
     ∧ s.lossSolve.sup.straps = s.sup.straps ∧ s.lossSolve.sup.kill = s.sup.kill
     ∧ s.lossSolve.pending = s.pending := by
  and_intros <;> (
    unfold State.lossSolve; split <;> try rfl
    split <;> simp [State.startSolve])

/-- `flush` keeps all but what it is for: LATCH messages queued and FLUSHED set (R95). -/
@[simp] theorem State.flush_keeps (s : State) :
   s.flush.now = s.now ∧ s.flush.zone = s.zone ∧ s.flush.solver = s.solver ∧ s.flush.banks = s.banks
     ∧ s.flush.timing.edgeRef = s.timing.edgeRef ∧ s.flush.timing.tf = s.timing.tf
     ∧ s.flush.timing.lossTimer = s.timing.lossTimer ∧ s.flush.timing.freeRun = s.timing.freeRun
     ∧ s.flush.timing.gateOpen = s.timing.gateOpen ∧ s.flush.timing.hold = s.timing.hold
     ∧ s.flush.timing.fsync = s.timing.fsync
     ∧ s.flush.drivers = s.drivers ∧ s.flush.link.line = s.link.line
     ∧ s.flush.link.idlePeriods = s.link.idlePeriods ∧ s.flush.link.resetGap = s.link.resetGap
     ∧ s.flush.link.resend = s.link.resend ∧ s.flush.link.rate = s.link.rate
     ∧ s.flush.link.lineRate = s.link.lineRate ∧ s.flush.link.mode = s.link.mode
     ∧ s.flush.link.lineMode = s.link.lineMode
     ∧ s.flush.link.modeMoved = s.link.modeMoved ∧ s.flush.link.pollInterval = s.link.pollInterval
     ∧ s.flush.link.pollTimer = s.link.pollTimer ∧ s.flush.link.attentionHold = s.link.attentionHold
     ∧ s.flush.thermal = s.thermal ∧ s.flush.events = s.events ∧ s.flush.picture.frame = s.picture.frame
     ∧ s.flush.sup.op = s.sup.op ∧ s.flush.sup.latch = s.sup.latch ∧ s.flush.sup.resume = s.sup.resume
     ∧ s.flush.sup.lastResult = s.sup.lastResult ∧ s.flush.sup.readPointer = s.sup.readPointer
     ∧ s.flush.sup.budgets = s.sup.budgets ∧ s.flush.sup.rise = s.sup.rise ∧ s.flush.sup.fall = s.sup.fall
     ∧ s.flush.sup.derate = s.sup.derate ∧ s.flush.sup.scan = s.sup.scan ∧ s.flush.sup.loss = s.sup.loss
     ∧ s.flush.sup.straps = s.sup.straps ∧ s.flush.sup.kill = s.sup.kill ∧ s.flush.pending = s.pending := by
  and_intros <;> (
    unfold State.flush; split <;> try rfl
    split <;> simp )

/-- `frameStart` keeps all but what it is for: the flush, then the commit or LATE-COMMIT (R76, R77, R79, R95). -/
@[simp] theorem State.frameStart_keeps (s : State) :
   s.frameStart.now = s.now ∧ s.frameStart.zone = s.zone ∧ s.frameStart.solver = s.solver
     ∧ s.frameStart.banks.source = s.banks.source ∧ s.frameStart.timing.edgeRef = s.timing.edgeRef
     ∧ s.frameStart.timing.tf = s.timing.tf ∧ s.frameStart.timing.lossTimer = s.timing.lossTimer
     ∧ s.frameStart.timing.freeRun = s.timing.freeRun ∧ s.frameStart.timing.hold = s.timing.hold
     ∧ s.frameStart.timing.fsync = s.timing.fsync
     ∧ s.frameStart.drivers.rotation = s.drivers.rotation ∧ s.frameStart.drivers.discovery = s.drivers.discovery
     ∧ s.frameStart.drivers.probes = s.drivers.probes ∧ s.frameStart.link.line = s.link.line
     ∧ s.frameStart.link.idlePeriods = s.link.idlePeriods ∧ s.frameStart.link.resetGap = s.link.resetGap
     ∧ s.frameStart.link.resend = s.link.resend ∧ s.frameStart.link.rate = s.link.rate
     ∧ s.frameStart.link.lineRate = s.link.lineRate ∧ s.frameStart.link.mode = s.link.mode
     ∧ s.frameStart.link.lineMode = s.link.lineMode
     ∧ s.frameStart.link.modeMoved = s.link.modeMoved ∧ s.frameStart.link.pollInterval = s.link.pollInterval
     ∧ s.frameStart.link.pollTimer = s.link.pollTimer ∧ s.frameStart.link.attentionHold = s.link.attentionHold
     ∧ s.frameStart.thermal = s.thermal ∧ s.frameStart.picture.frame = s.picture.frame
     ∧ s.frameStart.sup.op = s.sup.op ∧ s.frameStart.sup.latch = s.sup.latch
     ∧ s.frameStart.sup.resume = s.sup.resume ∧ s.frameStart.sup.lastResult = s.sup.lastResult
     ∧ s.frameStart.sup.readPointer = s.sup.readPointer ∧ s.frameStart.sup.budgets = s.sup.budgets
     ∧ s.frameStart.sup.rise = s.sup.rise ∧ s.frameStart.sup.fall = s.sup.fall
     ∧ s.frameStart.sup.derate = s.sup.derate ∧ s.frameStart.sup.scan = s.sup.scan
     ∧ s.frameStart.sup.loss = s.sup.loss ∧ s.frameStart.sup.straps = s.sup.straps
     ∧ s.frameStart.sup.kill = s.sup.kill ∧ s.frameStart.pending = s.pending := by
  and_intros <;> (
    unfold State.frameStart; split <;> simp [State.commit])

/-- `discoveryEnd` keeps all but what it is for: into RUN or back to STANDBY (R107). -/
@[simp] theorem State.discoveryEnd_keeps (s : State) :
   s.discoveryEnd.now = s.now ∧ s.discoveryEnd.zone = s.zone ∧ s.discoveryEnd.solver = s.solver
     ∧ s.discoveryEnd.banks.pendingBank = s.banks.pendingBank ∧ s.discoveryEnd.banks.pend = s.banks.pend
     ∧ s.discoveryEnd.banks.source = s.banks.source ∧ s.discoveryEnd.drivers.entries = s.drivers.entries
     ∧ s.discoveryEnd.drivers.round = s.drivers.round ∧ s.discoveryEnd.drivers.probes = s.drivers.probes
     ∧ s.discoveryEnd.link.line = s.link.line ∧ s.discoveryEnd.link.idlePeriods = s.link.idlePeriods
     ∧ s.discoveryEnd.link.resetGap = s.link.resetGap ∧ s.discoveryEnd.link.resend = s.link.resend
     ∧ s.discoveryEnd.link.rate = s.link.rate ∧ s.discoveryEnd.link.lineRate = s.link.lineRate
     ∧ s.discoveryEnd.link.mode = s.link.mode ∧ s.discoveryEnd.link.lineMode = s.link.lineMode
     ∧ s.discoveryEnd.link.modeMoved = s.link.modeMoved
     ∧ s.discoveryEnd.link.pollInterval = s.link.pollInterval
     ∧ s.discoveryEnd.link.attentionHold = s.link.attentionHold ∧ s.discoveryEnd.thermal = s.thermal
     ∧ s.discoveryEnd.picture = s.picture ∧ s.discoveryEnd.sup.latch = s.sup.latch
     ∧ s.discoveryEnd.sup.resume = s.sup.resume ∧ s.discoveryEnd.sup.lastResult = s.sup.lastResult
     ∧ s.discoveryEnd.sup.readPointer = s.sup.readPointer ∧ s.discoveryEnd.sup.flags = s.sup.flags
     ∧ s.discoveryEnd.sup.budgets = s.sup.budgets ∧ s.discoveryEnd.sup.rise = s.sup.rise
     ∧ s.discoveryEnd.sup.fall = s.sup.fall ∧ s.discoveryEnd.sup.derate = s.sup.derate
     ∧ s.discoveryEnd.sup.scan = s.sup.scan ∧ s.discoveryEnd.sup.loss = s.sup.loss
     ∧ s.discoveryEnd.sup.straps = s.sup.straps ∧ s.discoveryEnd.sup.kill = s.sup.kill
     ∧ s.discoveryEnd.pending = s.pending := by
  and_intros <;> (
    unfold State.discoveryEnd; split <;> simp [State.enterRun, MapBanks.clearActive])

/-- `discoverFrom` keeps all but what it is for: the next CONFIG queued, or the end of discovery (R105, R107). -/
@[simp] theorem State.discoverFrom_keeps (s : State) (first : Nat) :
   (s.discoverFrom first).now = s.now ∧ (s.discoverFrom first).zone = s.zone
     ∧ (s.discoverFrom first).solver = s.solver ∧ (s.discoverFrom first).banks.pendingBank = s.banks.pendingBank
     ∧ (s.discoverFrom first).banks.pend = s.banks.pend ∧ (s.discoverFrom first).banks.source = s.banks.source
     ∧ (s.discoverFrom first).drivers.entries = s.drivers.entries
     ∧ (s.discoverFrom first).drivers.round = s.drivers.round
     ∧ (s.discoverFrom first).drivers.probes = s.drivers.probes ∧ (s.discoverFrom first).link.line = s.link.line
     ∧ (s.discoverFrom first).link.idlePeriods = s.link.idlePeriods
     ∧ (s.discoverFrom first).link.resetGap = s.link.resetGap
     ∧ (s.discoverFrom first).link.resend = s.link.resend ∧ (s.discoverFrom first).link.rate = s.link.rate
     ∧ (s.discoverFrom first).link.lineRate = s.link.lineRate ∧ (s.discoverFrom first).link.mode = s.link.mode
     ∧ (s.discoverFrom first).link.lineMode = s.link.lineMode
     ∧ (s.discoverFrom first).link.modeMoved = s.link.modeMoved
     ∧ (s.discoverFrom first).link.pollInterval = s.link.pollInterval
     ∧ (s.discoverFrom first).link.attentionHold = s.link.attentionHold
     ∧ (s.discoverFrom first).thermal = s.thermal ∧ (s.discoverFrom first).picture = s.picture
     ∧ (s.discoverFrom first).sup.latch = s.sup.latch ∧ (s.discoverFrom first).sup.resume = s.sup.resume
     ∧ (s.discoverFrom first).sup.lastResult = s.sup.lastResult
     ∧ (s.discoverFrom first).sup.readPointer = s.sup.readPointer
     ∧ (s.discoverFrom first).sup.flags = s.sup.flags ∧ (s.discoverFrom first).sup.budgets = s.sup.budgets
     ∧ (s.discoverFrom first).sup.rise = s.sup.rise ∧ (s.discoverFrom first).sup.fall = s.sup.fall
     ∧ (s.discoverFrom first).sup.derate = s.sup.derate ∧ (s.discoverFrom first).sup.scan = s.sup.scan
     ∧ (s.discoverFrom first).sup.loss = s.sup.loss ∧ (s.discoverFrom first).sup.straps = s.sup.straps
     ∧ (s.discoverFrom first).sup.kill = s.sup.kill ∧ (s.discoverFrom first).pending = s.pending := by
  and_intros <;> (
    unfold State.discoverFrom; split <;> simp)

/-- `discoveryNext` keeps all but what it is for: discovery goes on (R106). -/
@[simp] theorem State.discoveryNext_keeps (s : State) :
   s.discoveryNext.now = s.now ∧ s.discoveryNext.zone = s.zone ∧ s.discoveryNext.solver = s.solver
     ∧ s.discoveryNext.banks.pendingBank = s.banks.pendingBank ∧ s.discoveryNext.banks.pend = s.banks.pend
     ∧ s.discoveryNext.banks.source = s.banks.source ∧ s.discoveryNext.drivers.entries = s.drivers.entries
     ∧ s.discoveryNext.drivers.round = s.drivers.round ∧ s.discoveryNext.drivers.probes = s.drivers.probes
     ∧ s.discoveryNext.link.line = s.link.line ∧ s.discoveryNext.link.idlePeriods = s.link.idlePeriods
     ∧ s.discoveryNext.link.resetGap = s.link.resetGap ∧ s.discoveryNext.link.resend = s.link.resend
     ∧ s.discoveryNext.link.rate = s.link.rate ∧ s.discoveryNext.link.lineRate = s.link.lineRate
     ∧ s.discoveryNext.link.mode = s.link.mode ∧ s.discoveryNext.link.lineMode = s.link.lineMode
     ∧ s.discoveryNext.link.modeMoved = s.link.modeMoved
     ∧ s.discoveryNext.link.pollInterval = s.link.pollInterval
     ∧ s.discoveryNext.link.attentionHold = s.link.attentionHold ∧ s.discoveryNext.thermal = s.thermal
     ∧ s.discoveryNext.picture = s.picture ∧ s.discoveryNext.sup.latch = s.sup.latch
     ∧ s.discoveryNext.sup.resume = s.sup.resume ∧ s.discoveryNext.sup.lastResult = s.sup.lastResult
     ∧ s.discoveryNext.sup.readPointer = s.sup.readPointer ∧ s.discoveryNext.sup.flags = s.sup.flags
     ∧ s.discoveryNext.sup.budgets = s.sup.budgets ∧ s.discoveryNext.sup.rise = s.sup.rise
     ∧ s.discoveryNext.sup.fall = s.sup.fall ∧ s.discoveryNext.sup.derate = s.sup.derate
     ∧ s.discoveryNext.sup.scan = s.sup.scan ∧ s.discoveryNext.sup.loss = s.sup.loss
     ∧ s.discoveryNext.sup.straps = s.sup.straps ∧ s.discoveryNext.sup.kill = s.sup.kill
     ∧ s.discoveryNext.pending = s.pending := by
  and_intros <;> (
    unfold State.discoveryNext; split <;> simp)

/-- `takeRead` keeps all but what it is for: the thermal record, posts and fault marks (R144). -/
@[simp] theorem State.takeRead_keeps (s : State) (i : Nat) (e : DriverEntry) (p : Option ReadReport) :
   (s.takeRead i e p).now = s.now ∧ (s.takeRead i e p).zone.cols = s.zone.cols
     ∧ (s.takeRead i e p).zone.rows = s.zone.rows ∧ (s.takeRead i e p).zone.demand = s.zone.demand
     ∧ (s.takeRead i e p).zone.storeOpen = s.zone.storeOpen ∧ (s.takeRead i e p).zone.gainA = s.zone.gainA
     ∧ (s.takeRead i e p).zone.gainB = s.zone.gainB ∧ (s.takeRead i e p).zone.liveSet = s.zone.liveSet
     ∧ (s.takeRead i e p).zone.enable = s.zone.enable ∧ (s.takeRead i e p).zone.locks = s.zone.locks
     ∧ (s.takeRead i e p).solver = s.solver ∧ (s.takeRead i e p).banks = s.banks
     ∧ (s.takeRead i e p).timing = s.timing ∧ (s.takeRead i e p).drivers = s.drivers
     ∧ (s.takeRead i e p).link = s.link ∧ (s.takeRead i e p).picture = s.picture
     ∧ (s.takeRead i e p).sup = s.sup ∧ (s.takeRead i e p).pending = s.pending := by
  and_intros <;> (
    unfold State.takeRead; cases p <;> rfl)

/-- `handRead` keeps all but what it is for: a READ ending taken or dropped (R144). -/
@[simp] theorem State.handRead_keeps (s : State) (i : Nat) (kept : Bool) (p : Option ReadReport) :
   (s.handRead i kept p).now = s.now ∧ (s.handRead i kept p).zone.cols = s.zone.cols
     ∧ (s.handRead i kept p).zone.rows = s.zone.rows ∧ (s.handRead i kept p).zone.demand = s.zone.demand
     ∧ (s.handRead i kept p).zone.storeOpen = s.zone.storeOpen ∧ (s.handRead i kept p).zone.gainA = s.zone.gainA
     ∧ (s.handRead i kept p).zone.gainB = s.zone.gainB ∧ (s.handRead i kept p).zone.liveSet = s.zone.liveSet
     ∧ (s.handRead i kept p).zone.enable = s.zone.enable ∧ (s.handRead i kept p).zone.locks = s.zone.locks
     ∧ (s.handRead i kept p).solver = s.solver ∧ (s.handRead i kept p).banks = s.banks
     ∧ (s.handRead i kept p).timing = s.timing ∧ (s.handRead i kept p).drivers = s.drivers
     ∧ (s.handRead i kept p).link = s.link ∧ (s.handRead i kept p).picture = s.picture
     ∧ (s.handRead i kept p).sup = s.sup ∧ (s.handRead i kept p).pending = s.pending := by
  and_intros <;> (
    unfold State.handRead; split <;> try rfl
    split <;> simp)

/-- `readFollows` keeps all but what it is for: discovery goes on or a probe ends (R106, R116). -/
@[simp] theorem State.readFollows_keeps (s : State) (i : Nat) (asker : ReadAsker) (claim : Bool) :
   (s.readFollows i asker claim).now = s.now ∧ (s.readFollows i asker claim).zone = s.zone
     ∧ (s.readFollows i asker claim).solver = s.solver
     ∧ (s.readFollows i asker claim).banks.pendingBank = s.banks.pendingBank
     ∧ (s.readFollows i asker claim).banks.pend = s.banks.pend
     ∧ (s.readFollows i asker claim).banks.source = s.banks.source
     ∧ (s.readFollows i asker claim).drivers.entries = s.drivers.entries
     ∧ (s.readFollows i asker claim).drivers.round = s.drivers.round
     ∧ (s.readFollows i asker claim).link.line = s.link.line
     ∧ (s.readFollows i asker claim).link.idlePeriods = s.link.idlePeriods
     ∧ (s.readFollows i asker claim).link.resetGap = s.link.resetGap
     ∧ (s.readFollows i asker claim).link.resend = s.link.resend
     ∧ (s.readFollows i asker claim).link.rate = s.link.rate
     ∧ (s.readFollows i asker claim).link.lineRate = s.link.lineRate
     ∧ (s.readFollows i asker claim).link.mode = s.link.mode
     ∧ (s.readFollows i asker claim).link.lineMode = s.link.lineMode
     ∧ (s.readFollows i asker claim).link.modeMoved = s.link.modeMoved
     ∧ (s.readFollows i asker claim).link.pollInterval = s.link.pollInterval
     ∧ (s.readFollows i asker claim).link.attentionHold = s.link.attentionHold
     ∧ (s.readFollows i asker claim).thermal = s.thermal ∧ (s.readFollows i asker claim).picture = s.picture
     ∧ (s.readFollows i asker claim).sup.latch = s.sup.latch
     ∧ (s.readFollows i asker claim).sup.resume = s.sup.resume
     ∧ (s.readFollows i asker claim).sup.lastResult = s.sup.lastResult
     ∧ (s.readFollows i asker claim).sup.readPointer = s.sup.readPointer
     ∧ (s.readFollows i asker claim).sup.flags = s.sup.flags
     ∧ (s.readFollows i asker claim).sup.budgets = s.sup.budgets
     ∧ (s.readFollows i asker claim).sup.rise = s.sup.rise ∧ (s.readFollows i asker claim).sup.fall = s.sup.fall
     ∧ (s.readFollows i asker claim).sup.derate = s.sup.derate
     ∧ (s.readFollows i asker claim).sup.scan = s.sup.scan ∧ (s.readFollows i asker claim).sup.loss = s.sup.loss
     ∧ (s.readFollows i asker claim).sup.straps = s.sup.straps
     ∧ (s.readFollows i asker claim).sup.kill = s.sup.kill ∧ (s.readFollows i asker claim).pending = s.pending := by
  and_intros <;> (
    unfold State.readFollows; cases asker <;> cases claim <;> simp)

/-- `internalStart` keeps all but what it is for: the generator set, a frame start and its loss solve (R83). -/
@[simp] theorem State.internalStart_keeps (s : State) (next : Nat) :
   (s.internalStart next).now = s.now ∧ (s.internalStart next).zone.cols = s.zone.cols
     ∧ (s.internalStart next).zone.rows = s.zone.rows ∧ (s.internalStart next).zone.demand = s.zone.demand
     ∧ (s.internalStart next).zone.gainA = s.zone.gainA ∧ (s.internalStart next).zone.gainB = s.zone.gainB
     ∧ (s.internalStart next).zone.liveSet = s.zone.liveSet ∧ (s.internalStart next).zone.enable = s.zone.enable
     ∧ (s.internalStart next).zone.fault = s.zone.fault ∧ (s.internalStart next).zone.locks = s.zone.locks
     ∧ (s.internalStart next).timing.edgeRef = s.timing.edgeRef ∧ (s.internalStart next).timing.tf = s.timing.tf
     ∧ (s.internalStart next).timing.lossTimer = s.timing.lossTimer
     ∧ (s.internalStart next).timing.hold = s.timing.hold
     ∧ (s.internalStart next).timing.fsync = s.timing.fsync
     ∧ (s.internalStart next).drivers.rotation = s.drivers.rotation
     ∧ (s.internalStart next).drivers.discovery = s.drivers.discovery
     ∧ (s.internalStart next).drivers.probes = s.drivers.probes
     ∧ (s.internalStart next).link.idlePeriods = s.link.idlePeriods
     ∧ (s.internalStart next).link.resetGap = s.link.resetGap
     ∧ (s.internalStart next).link.resend = s.link.resend ∧ (s.internalStart next).link.rate = s.link.rate
     ∧ (s.internalStart next).link.lineRate = s.link.lineRate ∧ (s.internalStart next).link.mode = s.link.mode
     ∧ (s.internalStart next).link.lineMode = s.link.lineMode
     ∧ (s.internalStart next).link.modeMoved = s.link.modeMoved
     ∧ (s.internalStart next).link.pollInterval = s.link.pollInterval
     ∧ (s.internalStart next).link.pollTimer = s.link.pollTimer
     ∧ (s.internalStart next).link.attentionHold = s.link.attentionHold
     ∧ (s.internalStart next).thermal = s.thermal ∧ (s.internalStart next).picture.frame = s.picture.frame
     ∧ (s.internalStart next).sup.op = s.sup.op ∧ (s.internalStart next).sup.latch = s.sup.latch
     ∧ (s.internalStart next).sup.resume = s.sup.resume
     ∧ (s.internalStart next).sup.lastResult = s.sup.lastResult
     ∧ (s.internalStart next).sup.readPointer = s.sup.readPointer
     ∧ (s.internalStart next).sup.budgets = s.sup.budgets ∧ (s.internalStart next).sup.rise = s.sup.rise
     ∧ (s.internalStart next).sup.fall = s.sup.fall ∧ (s.internalStart next).sup.derate = s.sup.derate
     ∧ (s.internalStart next).sup.scan = s.sup.scan ∧ (s.internalStart next).sup.loss = s.sup.loss
     ∧ (s.internalStart next).sup.straps = s.sup.straps ∧ (s.internalStart next).sup.kill = s.sup.kill
     ∧ (s.internalStart next).pending = s.pending := by
  and_intros <;> (
    unfold State.internalStart; simp)

/-- `lossExpiry` keeps all but what it is for: the timers stopped, SIGNAL-LOSS, and an internal frame start (R82). -/
@[simp] theorem State.lossExpiry_keeps (s : State) :
   s.lossExpiry.now = s.now ∧ s.lossExpiry.zone.cols = s.zone.cols ∧ s.lossExpiry.zone.rows = s.zone.rows
     ∧ s.lossExpiry.zone.demand = s.zone.demand ∧ s.lossExpiry.zone.gainA = s.zone.gainA
     ∧ s.lossExpiry.zone.gainB = s.zone.gainB ∧ s.lossExpiry.zone.liveSet = s.zone.liveSet
     ∧ s.lossExpiry.zone.enable = s.zone.enable ∧ s.lossExpiry.zone.fault = s.zone.fault
     ∧ s.lossExpiry.zone.locks = s.zone.locks ∧ s.lossExpiry.timing.tf = s.timing.tf
     ∧ s.lossExpiry.timing.hold = s.timing.hold
     ∧ s.lossExpiry.timing.fsync = s.timing.fsync ∧ s.lossExpiry.drivers.rotation = s.drivers.rotation
     ∧ s.lossExpiry.drivers.discovery = s.drivers.discovery ∧ s.lossExpiry.drivers.probes = s.drivers.probes
     ∧ s.lossExpiry.link.idlePeriods = s.link.idlePeriods ∧ s.lossExpiry.link.resetGap = s.link.resetGap
     ∧ s.lossExpiry.link.resend = s.link.resend ∧ s.lossExpiry.link.rate = s.link.rate
     ∧ s.lossExpiry.link.lineRate = s.link.lineRate ∧ s.lossExpiry.link.mode = s.link.mode
     ∧ s.lossExpiry.link.lineMode = s.link.lineMode
     ∧ s.lossExpiry.link.modeMoved = s.link.modeMoved ∧ s.lossExpiry.link.pollInterval = s.link.pollInterval
     ∧ s.lossExpiry.link.pollTimer = s.link.pollTimer ∧ s.lossExpiry.link.attentionHold = s.link.attentionHold
     ∧ s.lossExpiry.thermal = s.thermal ∧ s.lossExpiry.picture.frame = s.picture.frame
     ∧ s.lossExpiry.sup.op = s.sup.op ∧ s.lossExpiry.sup.latch = s.sup.latch
     ∧ s.lossExpiry.sup.resume = s.sup.resume ∧ s.lossExpiry.sup.lastResult = s.sup.lastResult
     ∧ s.lossExpiry.sup.readPointer = s.sup.readPointer ∧ s.lossExpiry.sup.budgets = s.sup.budgets
     ∧ s.lossExpiry.sup.rise = s.sup.rise ∧ s.lossExpiry.sup.fall = s.sup.fall
     ∧ s.lossExpiry.sup.derate = s.sup.derate ∧ s.lossExpiry.sup.scan = s.sup.scan
     ∧ s.lossExpiry.sup.loss = s.sup.loss ∧ s.lossExpiry.sup.straps = s.sup.straps
     ∧ s.lossExpiry.sup.kill = s.sup.kill ∧ s.lossExpiry.pending = s.pending := by
  and_intros <;> (
    unfold State.lossExpiry; simp)

/-- `fsyncEdge` keeps all but what it is for: a runt, or an accepted frame start (R65, R66, R67, R84). -/
@[simp] theorem State.fsyncEdge_keeps (s : State) :
   s.fsyncEdge.now = s.now ∧ s.fsyncEdge.zone = s.zone ∧ s.fsyncEdge.solver = s.solver
     ∧ s.fsyncEdge.banks.source = s.banks.source ∧ s.fsyncEdge.timing.hold = s.timing.hold
     ∧ s.fsyncEdge.timing.fsync = s.timing.fsync
     ∧ s.fsyncEdge.drivers.rotation = s.drivers.rotation ∧ s.fsyncEdge.drivers.discovery = s.drivers.discovery
     ∧ s.fsyncEdge.drivers.probes = s.drivers.probes ∧ s.fsyncEdge.link.line = s.link.line
     ∧ s.fsyncEdge.link.idlePeriods = s.link.idlePeriods ∧ s.fsyncEdge.link.resetGap = s.link.resetGap
     ∧ s.fsyncEdge.link.resend = s.link.resend ∧ s.fsyncEdge.link.rate = s.link.rate
     ∧ s.fsyncEdge.link.lineRate = s.link.lineRate ∧ s.fsyncEdge.link.mode = s.link.mode
     ∧ s.fsyncEdge.link.lineMode = s.link.lineMode
     ∧ s.fsyncEdge.link.modeMoved = s.link.modeMoved ∧ s.fsyncEdge.link.pollInterval = s.link.pollInterval
     ∧ s.fsyncEdge.link.pollTimer = s.link.pollTimer ∧ s.fsyncEdge.link.attentionHold = s.link.attentionHold
     ∧ s.fsyncEdge.thermal = s.thermal ∧ s.fsyncEdge.picture.frame = s.picture.frame
     ∧ s.fsyncEdge.sup.op = s.sup.op ∧ s.fsyncEdge.sup.latch = s.sup.latch
     ∧ s.fsyncEdge.sup.resume = s.sup.resume ∧ s.fsyncEdge.sup.lastResult = s.sup.lastResult
     ∧ s.fsyncEdge.sup.readPointer = s.sup.readPointer ∧ s.fsyncEdge.sup.budgets = s.sup.budgets
     ∧ s.fsyncEdge.sup.rise = s.sup.rise ∧ s.fsyncEdge.sup.fall = s.sup.fall
     ∧ s.fsyncEdge.sup.derate = s.sup.derate ∧ s.fsyncEdge.sup.scan = s.sup.scan
     ∧ s.fsyncEdge.sup.loss = s.sup.loss ∧ s.fsyncEdge.sup.straps = s.sup.straps
     ∧ s.fsyncEdge.sup.kill = s.sup.kill ∧ s.fsyncEdge.pending = s.pending := by
  and_intros <;> (
    unfold State.fsyncEdge; split <;> try rfl
    split <;> try simp
    split <;> simp)

/-- `safetyEntry` keeps all but what it is for: every operation ended and the device SAFE (R181). -/
@[simp] theorem State.safetyEntry_keeps (s : State) :
   s.safetyEntry.now = s.now ∧ s.safetyEntry.zone = s.zone ∧ s.safetyEntry.solver.phase = s.solver.phase
     ∧ s.safetyEntry.solver.kind = s.solver.kind ∧ s.safetyEntry.solver.cursor = s.solver.cursor
     ∧ s.safetyEntry.solver.startTime = s.solver.startTime ∧ s.safetyEntry.solver.params = s.solver.params
     ∧ s.safetyEntry.solver.snapshot = s.solver.snapshot ∧ s.safetyEntry.solver.sums = s.solver.sums
     ∧ s.safetyEntry.solver.inputs = s.solver.inputs ∧ s.safetyEntry.solver.factors = s.solver.factors
     ∧ s.safetyEntry.banks.active = s.banks.active ∧ s.safetyEntry.banks.pendingBank = s.banks.pendingBank
     ∧ s.safetyEntry.banks.source = s.banks.source ∧ s.safetyEntry.drivers.rotation = s.drivers.rotation
     ∧ s.safetyEntry.link.idlePeriods = s.link.idlePeriods ∧ s.safetyEntry.link.resetGap = s.link.resetGap
     ∧ s.safetyEntry.link.rate = s.link.rate ∧ s.safetyEntry.link.lineRate = s.link.lineRate
     ∧ s.safetyEntry.link.mode = s.link.mode ∧ s.safetyEntry.link.lineMode = s.link.lineMode
     ∧ s.safetyEntry.link.modeMoved = s.link.modeMoved
     ∧ s.safetyEntry.link.pollInterval = s.link.pollInterval
     ∧ s.safetyEntry.link.attentionHold = s.link.attentionHold ∧ s.safetyEntry.thermal = s.thermal
     ∧ s.safetyEntry.picture = s.picture ∧ s.safetyEntry.sup.lastResult = s.sup.lastResult
     ∧ s.safetyEntry.sup.readPointer = s.sup.readPointer ∧ s.safetyEntry.sup.flags = s.sup.flags
     ∧ s.safetyEntry.sup.budgets = s.sup.budgets ∧ s.safetyEntry.sup.rise = s.sup.rise
     ∧ s.safetyEntry.sup.fall = s.sup.fall ∧ s.safetyEntry.sup.derate = s.sup.derate
     ∧ s.safetyEntry.sup.scan = s.sup.scan ∧ s.safetyEntry.sup.loss = s.sup.loss
     ∧ s.safetyEntry.sup.straps = s.sup.straps ∧ s.safetyEntry.sup.kill = s.sup.kill
     ∧ s.safetyEntry.pending = s.pending := by
  and_intros <;> (
    unfold State.safetyEntry; simp)

/-- `enterDiscovery` keeps all but what it is for: every present entry UNPROBED, and discovery begun (R105). -/
@[simp] theorem State.enterDiscovery_keeps (s : State) :
   s.enterDiscovery.now = s.now ∧ s.enterDiscovery.zone = s.zone ∧ s.enterDiscovery.solver = s.solver
     ∧ s.enterDiscovery.banks.pendingBank = s.banks.pendingBank ∧ s.enterDiscovery.banks.pend = s.banks.pend
     ∧ s.enterDiscovery.banks.source = s.banks.source ∧ s.enterDiscovery.link.line = s.link.line
     ∧ s.enterDiscovery.link.idlePeriods = s.link.idlePeriods ∧ s.enterDiscovery.link.resetGap = s.link.resetGap
     ∧ s.enterDiscovery.link.resend = s.link.resend ∧ s.enterDiscovery.link.rate = s.link.rate
     ∧ s.enterDiscovery.link.lineRate = s.link.lineRate ∧ s.enterDiscovery.link.mode = s.link.mode
     ∧ s.enterDiscovery.link.lineMode = s.link.lineMode
     ∧ s.enterDiscovery.link.modeMoved = s.link.modeMoved
     ∧ s.enterDiscovery.link.pollInterval = s.link.pollInterval
     ∧ s.enterDiscovery.link.attentionHold = s.link.attentionHold ∧ s.enterDiscovery.thermal = s.thermal
     ∧ s.enterDiscovery.picture = s.picture ∧ s.enterDiscovery.sup.latch = s.sup.latch
     ∧ s.enterDiscovery.sup.resume = s.sup.resume ∧ s.enterDiscovery.sup.lastResult = s.sup.lastResult
     ∧ s.enterDiscovery.sup.readPointer = s.sup.readPointer ∧ s.enterDiscovery.sup.flags = s.sup.flags
     ∧ s.enterDiscovery.sup.budgets = s.sup.budgets ∧ s.enterDiscovery.sup.rise = s.sup.rise
     ∧ s.enterDiscovery.sup.fall = s.sup.fall ∧ s.enterDiscovery.sup.derate = s.sup.derate
     ∧ s.enterDiscovery.sup.scan = s.sup.scan ∧ s.enterDiscovery.sup.loss = s.sup.loss
     ∧ s.enterDiscovery.sup.straps = s.sup.straps ∧ s.enterDiscovery.sup.kill = s.sup.kill
     ∧ s.enterDiscovery.pending = s.pending := by
  and_intros <;> (
    unfold State.enterDiscovery; simp)

/-- `replaceWork` keeps all but what it is for: what a taken CLOSE FRAME ends (R43, R44). -/
@[simp] theorem State.replaceWork_keeps (s : State) :
   s.replaceWork.now = s.now ∧ s.replaceWork.zone = s.zone ∧ s.replaceWork.solver = s.solver
     ∧ s.replaceWork.banks = s.banks ∧ s.replaceWork.timing = s.timing
     ∧ s.replaceWork.drivers.rotation = s.drivers.rotation
     ∧ s.replaceWork.drivers.discovery = s.drivers.discovery ∧ s.replaceWork.drivers.probes = s.drivers.probes
     ∧ s.replaceWork.link.idlePeriods = s.link.idlePeriods ∧ s.replaceWork.link.resetGap = s.link.resetGap
     ∧ s.replaceWork.link.resend = s.link.resend ∧ s.replaceWork.link.rate = s.link.rate
     ∧ s.replaceWork.link.lineRate = s.link.lineRate ∧ s.replaceWork.link.mode = s.link.mode
     ∧ s.replaceWork.link.lineMode = s.link.lineMode
     ∧ s.replaceWork.link.modeMoved = s.link.modeMoved ∧ s.replaceWork.link.pollInterval = s.link.pollInterval
     ∧ s.replaceWork.link.pollTimer = s.link.pollTimer ∧ s.replaceWork.link.attentionHold = s.link.attentionHold
     ∧ s.replaceWork.thermal = s.thermal ∧ s.replaceWork.events = s.events
     ∧ s.replaceWork.picture.frame = s.picture.frame ∧ s.replaceWork.sup.op = s.sup.op
     ∧ s.replaceWork.sup.latch = s.sup.latch ∧ s.replaceWork.sup.resume = s.sup.resume
     ∧ s.replaceWork.sup.lastResult = s.sup.lastResult ∧ s.replaceWork.sup.readPointer = s.sup.readPointer
     ∧ s.replaceWork.sup.budgets = s.sup.budgets ∧ s.replaceWork.sup.rise = s.sup.rise
     ∧ s.replaceWork.sup.fall = s.sup.fall ∧ s.replaceWork.sup.derate = s.sup.derate
     ∧ s.replaceWork.sup.scan = s.sup.scan ∧ s.replaceWork.sup.loss = s.sup.loss
     ∧ s.replaceWork.sup.straps = s.sup.straps ∧ s.replaceWork.sup.kill = s.sup.kill
     ∧ s.replaceWork.pending = s.pending := by
  and_intros <;> (
    unfold State.replaceWork; split <;> try simp
    split <;> simp)

/-! ### Link requests, the arbiter, gains and the entry updates -/

/-- An attention request adds to the queue alone. -/
@[simp] theorem Link.attentionRequest_keeps (l : Link) (op : OpState) (d : DriverTable) (a : Nat) :
   (l.attentionRequest op d a).line = l.line ∧ (l.attentionRequest op d a).idlePeriods = l.idlePeriods
     ∧ (l.attentionRequest op d a).resetGap = l.resetGap ∧ (l.attentionRequest op d a).resend = l.resend
     ∧ (l.attentionRequest op d a).rate = l.rate ∧ (l.attentionRequest op d a).lineRate = l.lineRate
     ∧ (l.attentionRequest op d a).mode = l.mode ∧ (l.attentionRequest op d a).lineMode = l.lineMode
     ∧ (l.attentionRequest op d a).modeMoved = l.modeMoved
     ∧ (l.attentionRequest op d a).pollInterval = l.pollInterval
     ∧ (l.attentionRequest op d a).pollTimer = l.pollTimer
     ∧ (l.attentionRequest op d a).attentionHold = l.attentionHold := by
  unfold Link.attentionRequest
  and_intros <;> (
    split <;> try rfl
    split <;> rfl)

/-- Attention requests add to the queue alone. -/
@[simp] theorem Link.attentionRequests_keeps (l : Link) (op : OpState) (d : DriverTable) (as : List Nat) :
   (Link.attentionRequests op d l as).line = l.line
     ∧ (Link.attentionRequests op d l as).idlePeriods = l.idlePeriods
     ∧ (Link.attentionRequests op d l as).resetGap = l.resetGap
     ∧ (Link.attentionRequests op d l as).resend = l.resend ∧ (Link.attentionRequests op d l as).rate = l.rate
     ∧ (Link.attentionRequests op d l as).lineRate = l.lineRate
     ∧ (Link.attentionRequests op d l as).mode = l.mode
     ∧ (Link.attentionRequests op d l as).lineMode = l.lineMode
     ∧ (Link.attentionRequests op d l as).modeMoved = l.modeMoved
     ∧ (Link.attentionRequests op d l as).pollInterval = l.pollInterval
     ∧ (Link.attentionRequests op d l as).pollTimer = l.pollTimer
     ∧ (Link.attentionRequests op d l as).attentionHold = l.attentionHold := by
  induction as generalizing l with
  | nil => simp [Link.attentionRequests]
  | cons a t ih => simp [Link.attentionRequests, ih]

/-- A choice leaves the settings, the gap and the timers. -/
@[simp] theorem Link.choose_keeps (l : Link) (op : OpState) (d : DriverTable) :
   (l.choose op d).idlePeriods = l.idlePeriods ∧ (l.choose op d).resetGap = l.resetGap
     ∧ (l.choose op d).rate = l.rate ∧ (l.choose op d).lineRate = l.lineRate ∧ (l.choose op d).mode = l.mode
     ∧ (l.choose op d).lineMode = l.lineMode
     ∧ (l.choose op d).modeMoved = l.modeMoved ∧ (l.choose op d).pollInterval = l.pollInterval
     ∧ (l.choose op d).pollTimer = l.pollTimer := by
  unfold Link.choose
  and_intros <;> (
    split <;> try rfl
    split <;> rfl)

/-- A gain written leaves all but the gain tables. -/
@[simp] theorem ZoneStore.putGain_keeps (z : ZoneStore) (g : GainSet) (i : Nat) (v : Gain) :
   (z.putGain g i v).cols = z.cols ∧ (z.putGain g i v).rows = z.rows ∧ (z.putGain g i v).demand = z.demand
     ∧ (z.putGain g i v).storeOpen = z.storeOpen ∧ (z.putGain g i v).liveSet = z.liveSet
     ∧ (z.putGain g i v).enable = z.enable ∧ (z.putGain g i v).fault = z.fault
     ∧ (z.putGain g i v).locks = z.locks := by
  cases g <;> simp [ZoneStore.putGain]

/-- Gains written leave all but the gain tables. -/
@[simp] theorem ZoneStore.putGains_keeps (z : ZoneStore) (g : GainSet) (l : List (Nat × Gain)) :
   (z.putGains g l).cols = z.cols ∧ (z.putGains g l).rows = z.rows ∧ (z.putGains g l).demand = z.demand
     ∧ (z.putGains g l).storeOpen = z.storeOpen ∧ (z.putGains g l).liveSet = z.liveSet
     ∧ (z.putGains g l).enable = z.enable ∧ (z.putGains g l).fault = z.fault ∧ (z.putGains g l).locks = z.locks := by
  rw [z.putGains_frame]
  simp

/-- The ending of a LEVEL leaves rotation, discovery and probes. -/
@[simp] theorem DriverTable.levelEnded_keeps (d : DriverTable) (i : Nat) (x : Ending) :
   (d.levelEnded i x).rotation = d.rotation ∧ (d.levelEnded i x).discovery = d.discovery
     ∧ (d.levelEnded i x).probes = d.probes := by
  unfold DriverTable.levelEnded DriverTable.failEntry
  and_intros <;> (
    split <;> try rfl
    split <;> try rfl
    all_goals split <;> rfl)

/-- A recovered entry leaves rotation, discovery and probes. -/
@[simp] theorem DriverTable.recover_keeps (d : DriverTable) (i : Nat) (p : PendState) :
   (d.recover i p).rotation = d.rotation ∧ (d.recover i p).discovery = d.discovery
     ∧ (d.recover i p).probes = d.probes := by
  unfold DriverTable.recover
  and_intros <;> (split <;> rfl)

/-- A state changed leaves all but the entries. -/
@[simp] theorem DriverTable.setState_keeps (d : DriverTable) (i : Nat) (x : DriverState) :
   (d.setState i x).round = d.round ∧ (d.setState i x).rotation = d.rotation
     ∧ (d.setState i x).discovery = d.discovery ∧ (d.setState i x).probes = d.probes := by
  unfold DriverTable.setState
  and_intros <;> (split <;> rfl)

/-! ### The pending state after each operation -/

/-- A SOLVED map with the gate OPEN becomes SHIPPED; every other pending state stays. -/
theorem State.mapShipped_pend (s : State) :
    s.mapShipped.banks.pend =
      if s.banks.pend = .solved ∧ s.timing.gateOpen = true then .shipped else s.banks.pend := by
  unfold State.mapShipped
  split
  · dsimp only
    split <;> try rfl
    split <;> try rfl
    split <;> rfl
  · rfl

/-- A round in progress offers the LEVEL of the entry at the head of its list (R109, R110). -/
theorem State.continueRound_head {s : State} {i : Nat} {rest : List Nat} {e : DriverEntry}
    (hr : s.drivers.round = some (i :: rest)) (he : s.drivers.entryAt i = some e) :
    s.continueRound = { s with link := s.link.send (s.levelFor i e) } := by simp [State.continueRound, hr, he]

/-- A round with its list empty makes the map SHIPPED (R74, R109). -/
theorem State.continueRound_nil {s : State} (hr : s.drivers.round = some []) : s.continueRound = s.mapShipped := by
  simp [State.continueRound, hr]

/-- With the map SOLVED and the gate OPEN, `beginRound` opens the round and offers its first LEVEL (R109). -/
theorem State.beginRound_eq {s : State} (hp : s.banks.pend = .solved) (hg : s.timing.gateOpen = true) :
    s.beginRound = State.continueRound { s with drivers := s.drivers.openRound } := if_pos ⟨hp, hg⟩

/-- Without a SOLVED map, or with the gate CLOSED, no round begins (R109). -/
theorem State.beginRound_idle {s : State} (h : s.banks.pend ≠ .solved ∨ s.timing.gateOpen = false) :
    s.beginRound = s := if_neg (by rcases h with h | h <;> simp [h])

/-- A round that goes on leaves the pending state, or turns a SOLVED map with the gate OPEN into a SHIPPED one. -/
theorem State.continueRound_pend (s : State) :
    s.continueRound.banks.pend = s.banks.pend
      ∨ (s.banks.pend = .solved ∧ s.timing.gateOpen = true ∧ s.continueRound.banks.pend = .shipped) := by
  unfold State.continueRound
  split
  · split <;> exact .inl rfl
  · rw [State.mapShipped_pend]
    split
    · next h => exact .inr ⟨h.1, h.2, rfl⟩
    · exact .inl rfl
  · exact .inl rfl

/-- A round begun leaves the pending state, or turns a SOLVED map with the gate OPEN into a SHIPPED one. -/
theorem State.beginRound_pend (s : State) :
    s.beginRound.banks.pend = s.banks.pend
      ∨ (s.banks.pend = .solved ∧ s.timing.gateOpen = true ∧ s.beginRound.banks.pend = .shipped) := by
  unfold State.beginRound
  split
  · exact State.continueRound_pend _
  · exact .inl rfl

/-- The end of a band's LATCH leaves the pending state, or turns a SOLVED map into a SHIPPED one with the gate OPEN. -/
theorem State.bandEnded_pend (s : State) :
    s.bandEnded.banks.pend = s.banks.pend
      ∨ (s.banks.pend = .solved ∧ s.bandEnded.timing.gateOpen = true ∧ s.bandEnded.banks.pend = .shipped) := by
  unfold State.bandEnded
  split
  · split
    · exact .inl rfl
    · rcases State.beginRound_pend { s with timing := s.timing.cancel } with h | ⟨h1, _, h3⟩
      · exact .inl h
      · exact .inr ⟨h1, by simp, h3⟩
  · exact .inl rfl

/-- The end of a solve: a voided map leaves the pending state, a kept one is SOLVED, or SHIPPED at once. -/
theorem State.solveEnd_pend (s : State) :
    (s.solver.voided = true → s.solveEnd.banks.pend = s.banks.pend)
      ∧ (s.solver.voided = false →
        s.solveEnd.banks.pend = .solved ∨ s.timing.gateOpen = true ∧ s.solveEnd.banks.pend = .shipped) := by
  unfold State.solveEnd
  refine ⟨fun h => by simp [h], fun h => ?_⟩
  simp only [h]
  rcases State.beginRound_pend
    { s with
      solver := { s.solver with phase := .idle, cursor := 0, voided := false }
      banks :=
        { s.banks with
          pendingBank := { s.banks.pendingBank with domains := s.solver.domainRecords }
          pend := .solved } } with h | ⟨_, h2, h3⟩
  · exact .inl h
  · exact .inr ⟨h2, h3⟩

/-- The end of a solve leaves the solver IDLE and unvoided. -/
@[simp] theorem State.solveEnd_phase (s : State) : s.solveEnd.solver.phase = .idle := by
  unfold State.solveEnd; dsimp only; split <;> simp

@[simp] theorem State.solveEnd_voided (s : State) : s.solveEnd.solver.voided = false := by
  unfold State.solveEnd; dsimp only; split <;> simp

/-- A frame start commits a SHIPPED map and leaves every other pending state. -/
theorem State.frameStart_pend (s : State) :
    s.frameStart.banks.pend = if s.banks.pend = .shipped then .empty else s.banks.pend := by
  unfold State.frameStart
  rw [show s.flush.banks = s.banks by simp]
  split
  · rfl
  · simp

/-- A loss solve begins on an idle solver, unless a SOLVED map of a picture solve waits. -/
theorem State.lossSolve_cases (s : State) :
    s.lossSolve = s
      ∨ (s.solver.phase = .idle ∧ ¬(s.banks.pend = .solved ∧ s.banks.source = .pictureInLoss)
        ∧ s.lossSolve =
          (if s.banks.waiting then s.supersede else s).startSolve .loss s.lossParams s.banks.active.tag.epoch) := by
  unfold State.lossSolve
  split
  · next h => exact .inr ⟨h.1, h.2, rfl⟩
  · exact .inl rfl

/-! ### Where the gate and the schedule stand -/

/-- The flush leaves the gate, and whether a schedule runs. -/
theorem State.flush_schedule (s : State) : s.flush.timing.schedule.isSome = s.timing.schedule.isSome := by
  unfold State.flush
  split
  · next h =>
    split
    · simp [h]
    · rfl
  · rfl

/-- A frame start runs a schedule with the gate CLOSED where it commits, and leaves both where it does not. -/
theorem State.frameStart_gate (s : State) :
    (s.banks.pend = .shipped → s.frameStart.timing.gateOpen = false ∧ s.frameStart.timing.schedule.isSome = true)
      ∧ (s.banks.pend ≠ .shipped →
        s.frameStart.timing.gateOpen = s.timing.gateOpen
          ∧ s.frameStart.timing.schedule.isSome = s.timing.schedule.isSome) := by
  unfold State.frameStart
  rw [show s.flush.banks = s.banks by simp]
  refine ⟨fun h => ?_, fun h => ?_⟩
  · rw [if_pos h]; exact ⟨rfl, rfl⟩
  · rw [if_neg h]; exact ⟨by simp, s.flush_schedule⟩

/-! ### Attempts and stop pulses -/

/-- A LEVEL sent changes nothing of an entry but its attempt count, which stays in its range (R101, R110). -/
theorem DriverEntry.attempted_cases (e : DriverEntry) :
    e.attempted = { e with attempts := e.attempted.attempts } ∧ e.attempted.attempts ≤ Config.attempts :=
  ⟨rfl, Nat.min_le_left _ _⟩

/-- A stop pulse stands for the mode setting unless that has changed under the message (R133). -/
theorem Link.told_of_not_moved {l : Link} (h : l.modeMoved = false) (wide : Bool) : l.told wide = l.mode := by
  simp [Link.told, h]

/-- Where the mode setting has changed under the message, the width of the stop pulse tells the mode (R133). -/
theorem Link.told_of_moved {l : Link} (h : l.modeMoved = true) (wide : Bool) : l.told wide = .ofStop wide := by
  simp [Link.told, h]

end Sys2Proof.Machine
end

