-- ==== Sys2Proof/Tests/Slice0.lean ====
section
/-! SUPPORT. The model against the numbers of the manual's own tables and worked examples, and, for every statement
of Certificates/Slice0/Obligations.lean that has hypotheses, a state and operands that meet them, clause by clause. -/

namespace Sys2Proof.Tests

open Sys2Proof Sys2Proof.Machine

/-! ### Small states -/

/-- The command answers a next state of which this holds. -/
def gives (c : Instr) (s : State) (p : State → Bool) : Bool :=
  match exec c s with
  | .next t => p t
  | .fault _ => false
  | .refused _ => false

/-- A step answers a next state of which this holds. -/
def stepGives (s : State) (p : State → Bool) : Bool :=
  match step s with
  | .next t => p t
  | .fault _ => false
  | .refused _ => false

/-- A device with this grid in this operating state. -/
def grid (cols rows : Nat) (op : OpState) : State :=
  { State.reset with
    zone := { ZoneStore.reset with cols := cols, rows := rows }
    sup := { SupervisorPort.reset 0 true with op := op } }

/-- With the grid's one lock range. -/
def lock (s : State) (slot first last : Nat) : State :=
  { s with zone := { s.zone with locks := s.zone.locks.set none slot (some ⟨first, last⟩) } }

/-- A driver entry. -/
def entry (addr : Nat) (tile : Tile) (x : DriverState) : DriverEntry :=
  ⟨addr, tile, 0, 3, 100, x, 0, 0, false⟩

/-- With a driver entry. -/
def driver (s : State) (i : Nat) (e : DriverEntry) : State := { s with drivers := s.drivers.put i (some e) }

/-- A 2 × 2 grid with one driver, entry 0, over all of it. -/
def one (op : OpState) (x : DriverState) : State := driver (grid 2 2 op) 0 (entry 5 ⟨0, 0, 2, 2⟩ x)

/-- With this message on the line. -/
def line (s : State) (m : Message) (claim : Bool) (resends : Nat) : State :=
  { s with link := { s.link with resetGap := false, line := .message ⟨m, claim, resends, true⟩ } }

/-- With an idle line past its reset gap and these messages queued. -/
def queued (s : State) (q : List Message) : State :=
  { s with link := { s.link with resetGap := false, queue := q } }

/-- With this pending state. -/
def pend (s : State) (x : PendState) : State := { s with banks := { s.banks with pend := x } }

/-- With the solver in this phase of this kind of solve, at this zone. -/
def phase (s : State) (x : SolvePhase) (k : SolveKind) (cursor : Nat) : State :=
  { s with solver := { s.solver with phase := x, kind := k, cursor := cursor, snapshot := s.drivers.snapshot } }

/-- With this schedule running. -/
def schedule (s : State) (bands base gap cursor ended : Nat) : State :=
  { s with timing := { s.timing with
      schedule := some ⟨.zero, bands, base, gap, 0, cursor, ended⟩, gateOpen := false } }

/-- Driver status ACCEPT, BUSY, and no answer (R125). -/
def accept : LinkStatus := ⟨true, 0⟩
def busy : LinkStatus := ⟨true, 1⟩
def silent : LinkStatus := ⟨false, 3⟩

/-! ### Commands from bytes, and the checks on them -/

/-- A byte that names a picture command is no unknown command (R160). -/
theorem test_wellFormed_refuses_known_picture_byte : (Instr.pictureUnknownCommand 0x21).wellFormed = false := by decide

/-- A byte that names a supervisor command is no unknown command (R173). -/
theorem test_wellFormed_refuses_known_supervisor_byte :
    (Instr.supervisorUnknownCommand 0x85).wellFormed = false := by decide

/-- R186: start 100 is 0x064, RASTER '00'; the values 0x123, 0x456 and 0x789 go out as 12 34 56 78 9x. -/
theorem test_picture_frame_write_demand :
    pictureFrame [0x21, 0x06, 0x40, 0x12, 0x34, 0x56, 0x78, 0x90] =
      [.writeDemand 0x0640 false, .demandValue 0x123, .demandValue 0x456, .demandValue 0x789] := by decide

/-- R160, R161, R186: the other picture commands, and a header that is not whole. -/
theorem test_picture_frames :
    pictureFrame [0x2C, 0xC4, 1, 2, 3, 4] = [.closeFrame [0xC4, 1, 2, 3, 4] false]
      ∧ pictureFrame [0x41, 1, 0x09, 0xC0, 0x00, 0x80] = [.pictureReadMap 1 0x09C0 0x0080 false]
      ∧ pictureFrame [0x4F] = [.pictureReadStatus false]
      ∧ pictureFrame [0x61, 1, 0x00, 0x50, 0x03, 0xE8] = [.pictureWriteGain 1 0x0050 false, .pictureGainValue 1000]
      ∧ pictureFrame [0x62, 1, 0, 5, 0, 5] = [.pictureReadGain 1 5 5 false]
      ∧ pictureFrame [0x62, 1, 0, 5, 0] = [] ∧ pictureFrame [0x00] = [.pictureUnknownCommand 0x00] := by decide

/-- R160: bits sampled at rising clock edges while chip select is low; three bits more are no byte. -/
theorem test_picture_wires :
    let bit (b : Bool) : List PictureWires := [⟨false, false, b⟩, ⟨false, true, b⟩]
    (pictureFrames ⟨true, false, false⟩ none (⟨false, false, false⟩ ::
        [false, true, false, false, true, true, true, true, true, false, true].flatMap bit
          ++ [⟨true, false, false⟩])).map wholeBytes = [[0x4F]] := by decide

/-- R160: a reset after the second byte of a CLOSE FRAME, and after a WRITE DEMAND's first value. -/
theorem test_frame_with_a_reset :
    pictureFrameReset [0x2C, 0x00] [1] (.softReset []) = [.softReset [], .closeFrame [0x00, 1] true]
      ∧ pictureFrameReset [0x21, 0, 0, 0x12, 0x34] [0x56] (.softReset []) =
        [.writeDemand 0 false, .demandValue 0x123, .softReset [], .demandValue 0x456]
      ∧ gives (.closeFrame [] true) (grid 2 2 .run) (fun t => !t.picture.flags.closeRefused) = true := by decide

/-- R172: a write transaction to address 0x38 with READ STATUS, closed by a stop condition; its bits on the wires. -/
theorem test_two_wire_transaction :
    let bit (b : Bool) : List BusWires := [⟨false, b⟩, ⟨true, b⟩, ⟨false, b⟩]
    let bits := [false, true, true, true, false, false, false, false, false,
      true, false, false, false, false, false, false, false, false]
    busTransactions none (busMarks ⟨true, true⟩
        (⟨true, false⟩ :: bits.flatMap bit ++ [⟨false, false⟩, ⟨true, false⟩, ⟨true, true⟩])) = [bits ++ [false]]
      ∧ busCommands 0x38 bits = [.supervisorReadStatus []] ∧ busCommands 0x39 bits = []
      ∧ busCommands 0x38 (busBits [(0x71, false), (0x80, true)]) = [] := by decide

/-- R172: the port holds SDA low in the ninth periods of a write, and sends the bits of a read; not for 0x39. -/
theorem test_two_wire_answer :
    let s := { State.reset with sup := { SupervisorPort.reset 0 true with readPointer := some (.gains [0x155]) } }
    s.sda (byteBits 0x70) = .low ∧ s.sda (busBits [(0x70, false)] ++ byteBits 0x10) = .low
      ∧ s.sda (byteBits 0x72) = .released
      ∧ ((List.range 8).map fun k => s.sda (busBits [(0x71, false), (0x01, false)] ++ (byteBits 0x55).take k)) =
        [.low, .released, .low, .released, .low, .released, .low, .released]
      ∧ s.sda (busBits [(0x71, false), (0x01, true)]) = .released := by decide

/-- R173: command bytes of the supervisor port. -/
theorem test_supervisor_transactions :
    supervisorTransaction [0x10, 64, 40] = [.setGrid [64, 40]]
      ∧ supervisorTransaction [0x24, 0, 1, 4] = [.setLink [0, 1, 4]]
      ∧ supervisorTransaction [0x4F] = [.softReset []] ∧ supervisorTransaction [0x81] = [.popEvent []]
      ∧ supervisorTransaction [0x99, 1] = [.supervisorUnknownCommand 0x99] ∧ supervisorTransaction [] = [] := by decide

/-- The front command is taken, and an empty queue lets a microsecond pass (log entry 1). -/
theorem test_step :
    stepGives { State.reset with pending := [.stop [], .start []] }
        (fun t => decide (t.pending = [.start []]) && t.now = 0) = true
      ∧ stepGives State.reset (fun t => t.now = 1 && t.link.idlePeriods = 0) = true := by decide

/-! ### Chapter 1 -/

/-- 00_scope section 5.5: SERPENTINE and QUAD on 3 columns and 2 rows. -/
theorem test_write_orders :
    zoneSequence .serpentine 3 2 = [0, 1, 2, 5, 4, 3] ∧ zoneSequence .quad 3 2 = [0, 1, 3, 4, 2, 5] := by decide

/-- R9: the third value of a write from the last zone but one wraps to zone 0 (section 1.3, step 5, on 2 × 2). -/
theorem test_demand_values_wrap :
    gives (.demandValue 7) { grid 2 2 .run with picture := ⟨.none, .writeDemand .serpentine 3⟩ } (fun t =>
        t.zone.demandAt 2 = 7 && decide (t.picture.frame = .writeDemand .serpentine 0)) = true
      ∧ gives (.writeDemand 0x0024 false) (grid 2 2 .run) (fun t => t.picture.frame = .writeDemand .serpentine 3) = true := by
  decide

/-- The grid of section 1.5's worked example: 5 × 3, slot 2 holding {6, 8}, set B. -/
def locked : State := lock (grid 5 3 .standby) 2 6 8

/-- Section 1.5, step 1: zones 6 to 8 dropped with GAIN-LOCKED, zone 5 written. -/
theorem test_picture_gain_values :
    gives (.pictureGainValue 1000) { locked with picture := ⟨.none, .writeGain .b .raster 5⟩ } (fun t =>
        t.zone.gainAt .b 5 = 1000 && t.zone.gainAt .a 5 = 1024 && !t.picture.flags.gainLocked) = true
      ∧ gives (.pictureGainValue 1010) { locked with picture := ⟨.none, .writeGain .b .raster 6⟩ } (fun t =>
        t.zone.gainAt .b 6 = 1024 && t.picture.flags.gainLocked && t.sup.flags.gainLocked) = true := by decide

/-- Section 1.5, steps 2 and 3: QUAD from zone 3 meets the lock, QUAD from zone 10 does not. -/
theorem test_supervisor_write_gain :
    gives (.supervisorWriteGain [1, 0x00, 0x38, 3, 0xDE, 3, 0xE3, 3, 0xE8, 3, 0xED]) locked
        (fun t => t.sup.lastResult = .locked && t.zone.gainAt .b 3 = 1024) = true
      ∧ gives (.supervisorWriteGain [1, 0x00, 0xA8, 3, 0xDE, 3, 0xE3, 3, 0xE8, 3, 0xED]) locked (fun t =>
        t.sup.lastResult = .ok && t.zone.gainAt .b 10 = 990 && t.zone.gainAt .b 11 = 995
          && t.zone.gainAt .b 12 = 1000 && t.zone.gainAt .b 13 = 1005 && t.zone.gainAt .a 10 = 1024) = true := by
  decide

/-- Section 1.5: the visit of step 2, and a SET GRID under a lock. -/
theorem test_locked_grid :
    locked.zone.visited .quad 3 4 = [3, 7, 8, 4] ∧ locked.zone.visited .quad 10 4 = [10, 11, 12, 13]
      ∧ gives (.setGrid [5, 3]) locked (fun t => t.sup.lastResult = .locked) = true
      ∧ gives (.setGrid [64, 40]) (grid 5 3 .standby) (fun t => t.zone.n = 2560) = true := by decide

/-- Section 1.5, steps 4 and 5: the picture answer hides locked gains, the supervisor's copy does not. -/
theorem test_read_gain :
    gives (.pictureReadGain 1 5 5 false) locked (fun t =>
        ((List.range 12).map (t.pictureByte t)) = [4, 0, 0, 0, 0, 0, 0, 0, 4, 0, 0, 0]) = true
      ∧ gives (.supervisorReadGain [1, 0, 5, 0, 2]) locked (fun t =>
        ((List.range 5).map t.supervisorByte) = [4, 0, 4, 0, 0]) = true := by decide

/-- R164, R160: every bit of a gain is sent as it stood when its first byte began; the command and header bytes are
answered with 0. -/
theorem test_gain_is_not_torn :
    let s := { grid 5 3 .run with picture := ⟨.none, .readGain .a 5 2⟩ }
    let u := lock s 0 0 14
    (u.pictureByte s 0, u.pictureByte s 1, s.pictureByte u 2, s.pictureByte u 3) = (4, 0, 0, 0)
      ∧ s.dataOut s [0x62, 0, 0, 5, 0, 2] = 4 ∧ s.dataOut s [0x62, 0, 0, 5, 0] = 0
      ∧ (let v := { s with zone := s.zone.putGain .a 5 0x355 }; (u.pictureByte v 0, u.pictureByte v 1) = (3, 0x55)) := by
  decide

/-- R160, R186: data out changes at a falling edge and holds over the rising edge after it. READ STATUS in RUN answers
0x10 first: its fourth bit stands from the fall that follows eleven rises to the next. -/
theorem test_data_out_at_falling_edges :
    gives (.pictureReadStatus false) (grid 5 3 .run) (fun s =>
      let sdo (sck : Bool) (n : Nat) :=
        s.sdo s ⟨true, false, sck, byteBits 0x4F ++ List.replicate n false, true, [], true, 0, .quiet, none⟩
      [sdo true 0, sdo false 0, sdo true 3, sdo false 3, sdo true 4, sdo false 4] =
        [.low, .low, .low, .high, .high, .low]) = true := by decide

/-- R172: SDA changes only while SCL is low: the acknowledgement of the address begins at the fall of SCL. -/
theorem test_sda_while_scl_is_low :
    let at' (scl : Bool) : Moment := ⟨true, true, false, [], scl, byteBits 0x70, true, 0, .quiet, none⟩
    let s := grid 5 3 .run
    ((s.pins s s (at' true)).sda, (s.pins s s (at' false)).sda) = (.released, .low) := by decide

/-- R16: an occupied slot is LOCKED before its range is looked at; R17, R18: runs of zones. -/
theorem test_zone_commands :
    gives (.lockRange [2, 0, 9, 0, 9]) locked (fun t => t.sup.lastResult = .locked) = true
      ∧ gives (.lockRange [7, 0, 14, 0, 14]) locked (fun t => t.zone.locked 14 && t.zone.locked 7) = true
      ∧ gives (.zoneEnable [0, 1, 0, 2, 0]) locked (fun t => t.zone.enabled 0 && !t.zone.enabled 2) = true
      ∧ gives (.clearFault [0, 3, 0, 2]) locked (fun t => t.sup.lastResult = .range) = true := by decide

/-! ### Chapters 2 and 3 -/

/-- Section 2.9, case 1: the calibrated levels. -/
theorem test_case1_calibrate :
    calibrate 3000 1024 = 3000 ∧ calibrate 4000 1100 = 4095 ∧ calibrate 4095 1024 = 4095
      ∧ calibrate 2500 980 = 2393 ∧ calibrate 1000 1024 = 1000 ∧ calibrate 0 1024 = 0 := by decide

/-- Section 2.4's table of rise limits at the clamped frame times. -/
theorem test_slew_limits :
    [4100, 6944, 8333, 16667, 20833, 25000].map (fun tf => slewLimit 500 (clampTf tf))
      = [416, 416, 500, 1000, 1250, 1250] := by decide

/-- Section 2.9, case 1: slew, cap, factors, levels, codes and residuals. -/
theorem test_case1_solve :
    slewLimit 800 10000 = 960
      ∧ [(3000, 3000), (4095, 3500), (4095, 2000), (2393, 2393), (1000, 1500), (0, 100)].map
          (fun p => slewTo p.1 p.2 960 4095) = [3000, 4095, 2960, 2393, 1000, 0]
      ∧ derateCap ⟨60, 90, 2048, 95⟩ 70 false = 3413
      ∧ domainFactors ⟨10000, 256, 2400, 4096⟩ ⟨0, 5353, 7413, 0⟩ = ⟨2567, 4096⟩
      ∧ [(3000, 2567), (3413, 2567), (2960, 4096), (2393, 4096), (1000, 2567), (0, 2567)].map
          (fun p => scaleLevel p.1 p.2) = [1880, 2138, 2960, 2393, 626, 0]
      ∧ [(1880, 1), (2138, 3), (2960, 0), (2393, 2), (626, 0), (4095, 2)].map (fun p => dither p.1 p.2)
          = [(470, 1), (535, 1), (740, 0), (598, 3), (156, 2), (1023, 0)] := by decide

/-- Section 3.6, cases A to E: the factors of each branch. -/
theorem test_factor_cases :
    domainFactors ⟨8000, 512, 3000, 4096⟩ ⟨0, 0, 4500, 0⟩ = ⟨3512, 4096⟩
      ∧ domainFactors ⟨6000, 1024, 1800, 4096⟩ ⟨1500, 2000, 5000, 0⟩ = ⟨2048, 4096⟩
      ∧ domainFactors ⟨3000, 256, 1000, 4096⟩ ⟨0, 3500, 1000, 0⟩ = ⟨0, 3510⟩
      ∧ domainFactors ⟨2000, 256, 4096, 4096⟩ ⟨2600, 500, 700, 0⟩ = ⟨0, 0⟩
      ∧ domainFactors ⟨10483200, 1024, 0, 2000⟩ ⟨0, 0, 0, 0⟩ = ⟨1024, 3024⟩ := by decide

/-- Section 2.9, case 2, in the device: 4 × 1, zones 2 and 3 of an unreachable driver, zone 1 fault-marked. -/
def case2 : State :=
  let s := driver (driver (grid 4 1 .run) 0 (entry 5 ⟨0, 0, 2, 1⟩ .reachable)) 1 (entry 6 ⟨2, 0, 2, 1⟩ .unreachable)
  let b := (((s.banks.active.putZone 0 ⟨1200, 1200, 2, 299, false, false, false, false⟩).putZone 1
    ⟨900, 900, 0, 225, false, false, false, false⟩).putZone 2
    ⟨1500, 1620, 1, 375, false, false, false, false⟩).putZone 3 ⟨300, 300, 3, 75, false, false, false, false⟩
  { s with
    zone := { s.zone with demand := s.zone.demand.set 0 0 4095, fault := s.zone.fault.set false 1 true
                          enable := s.zone.enable.set true 3 false }
    banks := { s.banks with active := b }
    sup := { s.sup with budgets := s.sup.budgets.set 0 ⟨6000, 4096⟩ } }

/-- Section 2.9, case 2: the CLOSE FRAME with scene cut, the record that pass 1 leaves for each zone, and Hd. -/
theorem test_case2_pass1 :
    gives (.closeFrame [0x40] false) case2 (fun t =>
        decide ((List.range 4).map (fun z => ((t.pass1Record z).level, (t.pass1Record z).slewed)) =
          [(4095, 4095), (0, 0), (1500, 1620), (300, 300)])
        && decide ((List.range 4).map (fun z =>
            ((t.pass1Record z).held, (t.pass1Record z).fault, (t.pass1Record z).inactive)) =
          [(false, false, false), (false, true, true), (true, false, false), (true, false, false)])
        && (t.pass1Sums 2).d0.carried = 1500 && (t.pass1Sums 0).d0.nonFocus = 4095) = true := by decide

/-- Section 2.9, case 2: pass 2 gives zone 0 code 1023 and residual 0, and at zone 3 the map is SOLVED with level sum
5895. -/
theorem test_case2_pass2 :
    gives .pass2Zone (phase { case2 with banks := { case2.banks with
        pendingBank := case2.banks.pendingBank.putZone 0 ⟨4095, 4095, 0, 0, false, false, false, false⟩ } }
        .pass2 .picture 0) (fun t =>
        t.banks.pendingBank.zone 0 = ⟨4095, 4095, 0, 1023, false, false, false, false⟩ && t.solver.sums.d0.level = 4095)
      = true
    ∧ gives .pass2Zone { phase { case2 with banks := { case2.banks with
          pendingBank := case2.banks.pendingBank.putZone 3 ⟨300, 300, 3, 75, true, false, false, false⟩ } }
          .pass2 .picture 3 with timing := { case2.timing with gateOpen := false } } (fun t =>
        t.banks.pend = .solved && t.banks.pendingBank.zone 3 = ⟨300, 300, 3, 75, true, false, false, false⟩) = true := by
  decide

/-- Section 3.6, case B: the level sum of a domain record counts the carried levels. -/
theorem test_domain_record :
    Solver.domainRecords { State.reset.solver with
        factors := .all ⟨2048, 4096⟩, sums := .all ⟨1500, 2000, 5000, 4500⟩, inputs := .all ⟨6000, 1024, 1800, 4096⟩ }
      = .all ⟨2048, 4096, 6000, 6000⟩ := by decide

/-- R22, R51: a record without its overrides is refused; a window is clipped to the grid or ignored. -/
theorem test_close_frame :
    gives (.closeFrame [0x20, 1, 2] false) (one .run .reachable) (fun t => t.picture.flags.closeRefused) = true
      ∧ gives (.closeFrame [0x84, 1, 0, 9, 9] false) (one .run .reachable) (fun t =>
          t.solver.params.windows = [⟨1, 0, 1, 1⟩] && t.banks.pendingBank.tag = ⟨true, 1⟩ && !t.zone.storeOpen) = true
      ∧ clipWindow 2 2 ⟨2, 0, 3, 0⟩ = none ∧ clipWindow 2 2 ⟨1, 1, 0, 1⟩ = none := by decide
/-! ### Chapters 4 and 5 -/

/-- Section 4.9: an edge 3,100 µs after the reference is a runt, one 4,000 after it is not (R66). -/
theorem test_fsync :
    let s := { grid 2 2 .run with timing := { FrameTiming.reset false true with edgeRef := some 0, lossTimer := some 0 } }
    gives (.fsyncFallingEdge 3100 4 4) s (fun t => t.picture.flags.runtFs && t.timing.edgeRef = some 0
        && t.timing.tf = 16667 && !t.picture.flags.lateCommit) = true
      ∧ gives (.fsyncFallingEdge 4000 4 4) s (fun t => t.timing.tf = 4000 && t.timing.edgeRef = some 4000
        && t.picture.flags.lateCommit && t.sup.flags.lateCommit) = true := by decide

/-- R189: the falling edge after a high pulse of 3 periods brings no new level, after one of 4 periods it does. -/
theorem test_pin_filter :
    let s := { grid 2 2 .run with timing := FrameTiming.reset false false }
    gives (.fsyncFallingEdge 9000 9 3) s (fun t => t.now = 0 && !t.picture.flags.lateCommit) = true
      ∧ gives (.fsyncFallingEdge 9000 9 4) s (fun t => t.now = 9000 && t.picture.flags.lateCommit) = true
      ∧ gives (.killFallingEdge 9) { s with sup := { s.sup with kill := false } } (fun t => t.sup.op = .run) = true
      ∧ gives (.holdFall 5 9) s (fun t => t.now = 0) = true := by decide

/-- Section 4.4's worked example: zones 2 and 3 of the failed driver keep what they showed, held, and the level sum is
that of what is lit. -/
theorem test_commit_with_a_failed_driver :
    let s := driver (driver (grid 4 1 .run) 0 (entry 5 ⟨0, 0, 2, 1⟩ .reachable)) 1
      { entry 6 ⟨2, 0, 2, 1⟩ .failing with failed := true }
    let old := (s.banks.active.putZone 2 ⟨2000, 2000, 0, 500, false, false, false, false⟩).putZone 3
      ⟨1600, 1600, 3, 400, false, false, false, false⟩
    let new := ((((s.banks.active.putZone 0 ⟨1000, 1000, 1, 250, false, false, false, false⟩).putZone 1
      ⟨1000, 1000, 2, 250, false, false, false, false⟩).putZone 2
      ⟨900, 900, 0, 225, false, false, false, false⟩).putZone 3 ⟨700, 700, 3, 175, false, false, false, false⟩)
    gives (.fsyncFallingEdge 9000 4 4)
      { s with
        banks := ⟨{ old with tag := ⟨false, 20⟩ },
          { new with tag := ⟨false, 21⟩, domains := .all ⟨4096, 4096, 3600, 5500⟩ }, .shipped, .ordinary⟩ }
      (fun t => decide ((List.range 4).map t.banks.active.zone =
          [⟨1000, 1000, 1, 250, false, false, false, false⟩, ⟨1000, 1000, 2, 250, false, false, false, false⟩,
            ⟨2000, 2000, 0, 500, true, false, false, false⟩, ⟨1600, 1600, 3, 400, true, false, false, false⟩])
        && t.banks.active.domains.d0 = ⟨4096, 4096, 5600, 5500⟩ && t.banks.active.tag = ⟨false, 21⟩
        && t.banks.pend = .empty) = true := by decide

/-- Section 4.7's worked example at 100,000: the loss timer expires, LATE-COMMIT, and a loss solve with tag 1:41. -/
theorem test_loss_timer_expiry :
    let s := grid 2 2 .run
    gives .lossTimerExpiry
      { s with
        banks := { s.banks with active := { s.banks.active with tag := ⟨true, 40⟩ } }
        timing := { s.timing with lossTimer := some 0 } }
      (fun t => t.now = 100000 && t.timing.freeRun = .running 116667 && t.picture.flags.lateCommit
        && t.solver.kind = .loss && t.banks.pendingBank.tag = ⟨true, 41⟩ && t.banks.source = .ordinary
        && t.events.records = [⟨.signalLoss, none, none, none, 1, ⟨true, 40⟩⟩]) = true := by decide

/-- Section 4.7's worked example at 116,667 and 140,000: an internal start, and the edge that ends free-run. -/
theorem test_free_run :
    let s := { grid 2 2 .run with timing := { FrameTiming.reset false true with freeRun := .running 116667 } }
    gives .internalFrameStart s (fun t => t.now = 116667 && t.timing.freeRun = .running 133334) = true
      ∧ gives (.fsyncFallingEdge 140000 4 4) s (fun t => t.timing.freeRun = .off && t.timing.tf = 16667
        && t.timing.edgeRef = some 140000 && decide ((t.events.records.map EventRecord.kind) = [.signalRestored]))
        = true := by decide

/-- Section 4.9: HOLD clears the reference and stops the loss timer, and its fall starts the timer from 0. -/
theorem test_hold :
    let s := { grid 2 2 .run with timing := { FrameTiming.reset false true with edgeRef := some 10, lossTimer := some 10 } }
    gives (.holdRise 12 4) s (fun t => t.timing.edgeRef = none && t.timing.lossTimer = none && t.timing.hold) = true
      ∧ gives (.holdFall 25 4) { s with timing := s.timing.holdRise .run } (fun t => t.timing.lossTimer = some 25
        && t.timing.edgeRef = none && !t.timing.hold) = true := by decide

/-- Section 5.1's tables of rows and bands. -/
theorem test_bands :
    ((List.range 40).filter fun r => bandOfRow r 6 40 = 3) = [20, 21, 22, 23, 24, 25, 26]
      ∧ ((List.range 40).filter fun r => bandOfRow r 6 40 = 5).length = 6
      ∧ (List.range 9).map (fun r => bandOfRow r 16 9) = [0, 1, 3, 5, 7, 8, 10, 12, 14] := by decide

/-- Section 5.4's worked example: band 3 of 4 flushed at 6,000, then its LATCH ends and the gate opens. -/
theorem test_flush :
    let s := schedule (pend (grid 2 2 .run) .solved) 4 2000 1500 3 3
    gives (.fsyncFallingEdge 6000 4 4) s (fun t => t.picture.flags.flushed && t.picture.flags.lateCommit
        && t.link.queue = [.latch .zero 3] && t.banks.pend = .solved && !t.timing.gateOpen) = true
      ∧ gives (.latchEnding false false) (line s (.latch .zero 3) true 0) (fun t => t.timing.gateOpen
        && decide (t.timing.schedule = none) && t.banks.pend = .shipped) = true := by decide

/-- Section 5.3's worked example: band 1 of 6 comes due at 2,000. -/
theorem test_latch_due :
    gives .latchDue (schedule (grid 2 2 .run) 6 1000 1000 1 1) (fun t =>
      t.now = 2000 && t.link.queue = [.latch .zero 1]) = true := by decide

/-! ### Chapters 6 and 7 -/

/-- R102: a tile that leaves the grid, and an address in use, are RANGE; R2: the grid is kept. -/
theorem test_load_driver :
    gives (.loadDriver [3, 1, 7, 0, 0, 2, 2, 1, 3, 100]) (grid 2 2 .standby) (fun t =>
        t.drivers.entryAt 3 = some ⟨7, ⟨0, 0, 2, 2⟩, 1, 3, 100, .unprobed, 0, 0, false⟩) = true
      ∧ gives (.loadDriver [3, 1, 7, 1, 0, 2, 2, 1, 3, 100]) (grid 2 2 .standby)
          (fun t => t.sup.lastResult = .range) = true := by decide

/-- R179, R105, R107: START queues the first entry's CONFIG, or with no entry posts DISCOVERY-EMPTY. -/
theorem test_start :
    gives (.start []) (one .standby .unreachable) (fun t => t.sup.op = .discovery
        && t.link.queue = [.config 0 5 3 100 2 2 false]) = true
      ∧ gives (.start []) (grid 2 2 .standby) (fun t => t.sup.op = .standby
        && decide (t.events.records.map EventRecord.kind = [.discoveryEmpty])) = true := by decide

/-- Section 6.4: a discovery CONFIG that ends ACCEPT is followed by its READ, and then the device enters RUN. -/
theorem test_discovery :
    let s := one .discovery .unprobed
    let s := { s with drivers := { s.drivers with discovery := some 0 } }
    gives (.discoveryConfigEnding accept false) (line s (.config 0 5 3 100 2 2 false) true 0) (fun t =>
        t.link.queue = [.read 0 5 .discovery] && t.sup.op = .discovery) = true
      ∧ gives (.readEnding silent [] false) (line (driver s 0 (entry 5 ⟨0, 0, 2, 2⟩ .reachable)) (.read 0 5 .discovery) true 0)
        (fun t => t.sup.op = .run && (t.thermal.get .reset 0).run = 1) = true := by decide

/-- Section 6.8's worked example, steps 3 and 6: BUSY goes to the end of the list, the third attempt fails the entry. -/
theorem test_level_endings :
    let s := driver (driver (pend (grid 2 2 .run) .solved) 1 (entry 6 ⟨0, 0, 1, 2⟩ .reachable)) 2
      { entry 7 ⟨1, 0, 1, 2⟩ .failing with misses := 3, attempts := 2 }
    gives (.levelEnding busy false) (line { s with drivers := { s.drivers with round := some [1, 2] } }
        (.level 1 6 .zero [0, 0]) true 0) (fun t => t.drivers.round = some [2, 1]) = true
      ∧ gives (.levelEnding silent false) (line { s with drivers := { s.drivers with round := some [2, 1] } }
        (.level 2 7 .zero [0, 0]) true 0) (fun t => t.drivers.round = some [1]
          && ((t.drivers.entryAt 2).map fun e => (e.failed, e.misses)) = some (true, 3)) = true := by decide

/-- Section 6.8's worked example, steps 11 and 13: a PROBE, and its CONFIG's ACCEPT. -/
theorem test_probe :
    gives (.probe [0]) (one .run .unreachable) (fun t => t.link.queue = [.config 0 5 3 100 2 2 true]
        && t.drivers.probes = [0] && t.sup.lastResult = .ok) = true
      ∧ gives (.probeConfigEnding accept false) (line (one .run .unreachable) (.config 0 5 3 100 2 2 true) true 0) (fun t =>
        ((t.drivers.entryAt 0).map DriverEntry.state) = some .reachable
          && decide (t.events.records.map EventRecord.kind = [.driverRecovered])) = true := by decide

/-- Section 7.3's worked example: the checksum of LATCH 0:50, band 3. -/
theorem test_latch_checksum :
    checksumOf (Message.body (.latch ⟨false, 50⟩ 3)) = 16 ∧ (Message.body (.latch ⟨false, 50⟩ 3)).length = 21 := by
  decide

/-- Section 7.9's worked example: the CONFIG takes periods 0 to 45, the arbitration 47 to 63, the LATCH 66 to 103 and
the READ 124 to 176; R122 counts two idle periods more with each. -/
theorem test_message_lengths :
    Message.periods (.config 0 9 3 100 2 2 true) .quiet none = 46 + 2
      ∧ Message.periods (.latch .zero 2) .quiet none = 38 + 2 ∧ arbitrationPeriods .quiet = 17 + 2
      ∧ Message.periods (.read 0 17 .attention) .quiet (some 0) = 53 + 2 := by decide

/-- R133: a mode changed while a BLANK is on the line is told with its stop pulse if that is wide, else with a later one. -/
theorem test_stop_pulse :
    let s := line (grid 2 2 .run) .blank true 0
    gives (.setLink [0, 1, 4]) s (fun t =>
        gives (.blankEnding false false) t (fun u => u.link.lineMode = .quiet && u.link.mode = .polled)
          && gives (.blankEnding false true) t (fun u => u.link.lineMode = .polled)) = true
      ∧ gives (.blankEnding false true) s (fun u => u.link.lineMode = .quiet) = true := by decide

/-- Section 7.9's worked example: address 17 with thermal attention: '01' and '101110' on the line, between the start
pulse with the kind and the stop pulse. -/
theorem test_arbitration_line :
    arbitrationLine 0x6E .quiet =
        [false, false, false, false, true, true, true,
          false, true, true, false, true, true, true, false, false, false]
      ∧ arbitrationAddress 0x6E = some 17 ∧ LinkKind.arbitration.code = 7 := by decide

/-- R139: in polled line mode too a window with nothing queued clears the hold. -/
theorem test_window_in_polled_mode :
    gives .attentionWindow { State.reset with link := { Link.reset with
      resetGap := false, lineMode := .polled, attentionHold := true } } (fun t => !t.link.attentionHold) = true := by decide

/-- R130, R131: a higher class goes first; a LATCH is not sent in SAFE. -/
theorem test_transmit_choice :
    gives .transmitChoice (queued (one .run .reachable) (enqueue (.latch .zero 2) [.config 0 9 3 100 2 2 true]))
        (fun t => t.link.line = .message ⟨.latch .zero 2, true, 0, true⟩ && t.link.idlePeriods = 3) = true
      ∧ gives .transmitChoice (queued (one .safe .reachable) [.latch .zero 2, .poll])
        (fun t => t.link.line = .message ⟨.poll, true, 0, true⟩) = true := by decide

/-- Section 7.9's worked example: thermal attention of address 5, then the hold. -/
theorem test_arbitration :
    gives .attentionStart (queued (one .run .reachable) []) (fun t => t.link.line = .arbitration) = true
      ∧ gives (.arbitrationEnd (~~~(2 : BitVec 2) ++ ~~~(5 : BitVec 6)) false)
        { one .run .reachable with link := { Link.reset with line := .arbitration } } (fun t =>
        t.link.queue = [.read 0 5 .attention] && t.link.attentionHold) = true := by decide

/-- Section 7.7's worked example: slots 5, 17 and 40, the last entry UNREACHABLE. -/
theorem test_poll :
    let s := driver (driver (driver (grid 3 1 .run) 0 (entry 5 ⟨0, 0, 1, 1⟩ .reachable)) 3
      (entry 17 ⟨1, 0, 1, 1⟩ .failing)) 9 (entry 40 ⟨2, 0, 1, 1⟩ .unreachable)
    gives (.pollEnding (1 <<< 5 ||| 1 <<< 17 ||| 1 <<< 40) false) (line s .poll true 0) (fun t =>
      t.link.queue = [.read 0 5 .attention, .read 3 17 .attention]) = true := by decide

/-- R134, R135, R141, R139: SET LINK, the poll timer, the reset gap and a window. -/
theorem test_link_settings :
    gives (.setLink [0, 1, 15]) (grid 2 2 .run) (fun t => t.link.mode = .polled && t.link.lineMode = .quiet
        && t.link.pollTimer = some 0 && t.link.pollInterval = 15) = true
      ∧ gives .pollTimerExpiry { grid 2 2 .run with link := { Link.reset with pollTimer := some 0 } } (fun t =>
        t.now = 4000 && t.link.queue = [.poll]) = true
      ∧ gives .resetGapEnd State.reset (fun t => !t.link.resetGap) = true
      ∧ gives .attentionWindow { queued State.reset [] with link := { Link.reset with
          resetGap := false, attentionHold := true } } (fun t => !t.link.attentionHold) = true := by decide

/-- R127: a BLANK is sent three times at most. -/
theorem test_blank_resends :
    gives (.blankEnding true false) (line (grid 2 2 .safe) .blank true 1) (fun t =>
        t.link.resend = some ⟨.blank, true, 2, true⟩) = true
      ∧ gives (.blankEnding true false) (line (grid 2 2 .safe) .blank true 2) (fun t => t.link.resend = none) = true := by
  decide
/-! ### Chapter 8 -/

/-- Section 8.3's worked example: the caps at 80, 96, 98, 97, 93 and 89 °C under the default settings. -/
theorem test_heating_caps :
    [80, 96, 98, 97, 93, 89].map (fun t => derateCap ⟨70, 100, 1024, 95⟩ t false)
      = [3072, 1434, 1229, 1332, 1741, 2151] := by decide

/-- Section 8.3's worked example: steps 2, 3, 5, 7 and 8. -/
theorem test_heating_states :
    alertMove .normal 96 95 = (.alert, some .thermalAlert) ∧ alertMove .alert 98 95 = (.alert, some .thermalAlert)
      ∧ alertMove .acknowledged 97 95 = (.acknowledged, none) ∧ alertMove .acknowledged 93 95 = (.acknowledged, none)
      ∧ alertMove .acknowledged 89 95 = (.normal, some .thermalNormal) := by decide

/-- Section 8.4's worked example: entry 3 at column 8, row 4 of 64 × 40 reports local zones 0, 19 and 40. -/
theorem test_fault_list :
    let s := driver (grid 64 40 .run) 3 (entry 5 ⟨8, 4, 8, 4⟩ .reachable)
    gives (.readEnding accept (ReadReport.response ⟨80, .fault, [⟨0, false⟩, ⟨19, true⟩, ⟨40, false⟩]⟩) false)
      (line s (.read 3 5 .rotation) true 0) (fun t => t.zone.faulty 264 && t.zone.faulty 395
        && decide (t.events.records.map (fun r => (r.kind, r.driver, r.zone)) =
          [(.zoneOpen, some 3, some 264), (.zoneShort, some 3, some 395)])
        && (t.thermal.get .reset 3).cap = 3072 && (t.thermal.get .reset 3).temp = 80) = true := by decide

/-- R146: the eighth invalid read in a row posts THERMAL-ALERT without a value and caps at capmin. -/
theorem test_blind_driver :
    let s := one .run .reachable
    gives (.readEnding silent [] false) (line { s with thermal := s.thermal.set .reset 0 ⟨25, 7, 4095, .normal, .none⟩ }
        (.read 0 5 .attention) true 0) (fun t => (t.thermal.get .reset 0).run = 8 && (t.thermal.get .reset 0).cap = 1024
        && t.events.records = [⟨.thermalAlert, some 0, none, none, 1, .zero⟩]) = true := by decide

/-- Section 8.3's worked example, step 4. -/
theorem test_ack_alert :
    let s := one .run .reachable
    gives (.ackAlert [0]) { s with thermal := s.thermal.set .reset 0 ⟨98, 0, 1229, .alert, .thermal⟩ } (fun t =>
        (t.thermal.get .reset 0).state = .acknowledged && t.sup.lastResult = .ok) = true
      ∧ gives (.ackAlert [0]) s (fun t => t.sup.lastResult = .wrongState) = true := by decide

/-- A full event queue: 32 records of distinct zones. -/
def full : EventQueue :=
  ⟨(List.range 32).map fun z => ⟨.zoneOpen, some 0, some z, none, 1, .zero⟩, false⟩

/-- Section 8.5's worked example: steps 2, 4 and 5. -/
theorem test_full_queue :
    full.post ⟨true, 45⟩ .zoneOpen (some 0) (some 3) none =
        ⟨full.records.map fun r => if r.zone = some 3 then { r with count := 2 } else r, false⟩
      ∧ full.post .zero .zoneShort (some 3) (some 264) none = { full with overflow := true }
      ∧ gives (.popEvent []) { State.reset with events := full } (fun t => t.events.records.length = 31
        && t.supervisorByte 0 = 5) = true := by decide

/-! ### Chapters 9 and 10 -/

/-- Section 9.3: PENDING while EMPTY is STALE with tag 0:0; ACTIVE is VALID; SAFE is BLANKED. -/
theorem test_picture_read_map :
    gives (.pictureReadMap 1 0 4 false) (grid 2 2 .run) (fun t => (List.range 4).map (t.pictureByte t) = [0, 2, 0, 0]) = true
      ∧ gives (.pictureReadMap 0 0 1 false) (grid 2 2 .run) (fun t => t.pictureByte t 1 = 1) = true
      ∧ gives (.pictureReadMap 0 0 1 false) (grid 2 2 .safe) (fun t => t.pictureByte t 1 = 3) = true := by decide

/-- R168, R169, R175: each port's READ STATUS reports its flags and clears its own copy. -/
theorem test_read_status :
    let s := (grid 2 2 .run).raise .lateWrite
    gives (.pictureReadStatus false) s (fun t => t.pictureByte t 5 = 0x40 && !t.picture.flags.lateWrite
        && t.sup.flags.lateWrite) = true
      ∧ gives (.supervisorReadStatus []) s (fun t => t.supervisorByte 0 = 2 && t.supervisorByte 3 = 0x80
        && !t.sup.flags.lateWrite && t.picture.flags.lateWrite) = true := by decide

/-- R119, R187: READ DRIVER of a present and of an absent entry. -/
theorem test_read_driver :
    gives (.readDriver [0]) (one .run .reachable) (fun t =>
        (List.range 12).map t.supervisorByte = [2, 5, 0, 0, 2, 2, 0, 3, 100, 0, 0, 65]) = true
      ∧ gives (.readDriver [1]) (one .run .reachable) (fun t => t.supervisorByte 0 = 0 && t.supervisorByte 11 = 0)
        = true := by decide

/-- R62, R176, R187: READ POWER's first domain, and READ MAP. -/
theorem test_supervisor_reads :
    gives (.readPower []) State.reset (fun t =>
        (List.range 10).map t.supervisorByte = [0, 0, 0, 0x10, 0, 0x10, 0, 0x9F, 0xF6, 0]) = true
      ∧ gives (.supervisorReadMap [0, 3, 0, 1]) (grid 2 2 .run) (fun t => t.supervisorByte 1 = 1) = true
      ∧ gives (.supervisorReadMap [0, 4, 0, 1]) (grid 2 2 .run) (fun t => t.sup.lastResult = .range) = true := by decide

/-- R49, R87, R147, R177: settings at and past the ends of their ranges. -/
theorem test_settings :
    gives (.setBudget [3, 0xFF, 0xFF, 0xFF, 0, 0]) State.reset (fun t => t.sup.budgets.d3 = ⟨10483200, 1⟩) = true
      ∧ gives (.setSlew [0x0F, 0xFF, 0x10, 0x00]) State.reset (fun t => t.sup.lastResult = .range) = true
      ∧ gives (.setDerate [100, 130, 8, 0, 130]) State.reset (fun t => t.sup.derate = ⟨60, 90, 2048, 90⟩) = true
      ∧ gives (.setScan [16, 0x1F, 0x40, 0x07, 0xD0]) State.reset (fun t => t.sup.scan = ⟨16, 8000, 2000⟩) = true := by
  decide +kernel

/-- R80: SET LOSS clamps its steps to 16. -/
theorem test_set_loss :
    gives (.setLoss [200, 0x02, 0x58]) State.reset (fun t => t.sup.loss = ⟨16, 600⟩) = true
      ∧ gives (.setLoss [1, 0, 0]) { grid 2 2 .run with now := 25000, timing := { FrameTiming.reset false true with
        lossTimer := some 0 } } (fun t => t.timing.freeRun = .running 41667) = true := by
  decide +kernel

/-- R11, R180, R160, R173: SELECT GAIN SET, STOP, and bytes that name no command. -/
theorem test_small_commands :
    gives (.selectGainSet [3]) State.reset (fun t => t.zone.liveSet = .b) = true
      ∧ gives (.stop []) (one .run .reachable) (fun t => t.sup.op = .standby && t.link.queue = [.blank]) = true
      ∧ gives (.pictureUnknownCommand 0) State.reset (fun t => t.picture.frame = .nothing) = true
      ∧ gives (.supervisorUnknownCommand 0) State.reset (fun t => t.sup.lastResult = .unknown) = true := by decide

/-- Section 10.5's worked example, step 1: KILL falls in RUN with ACTIVE 1:30. -/
theorem test_kill :
    let s := pend (one .run .reachable) .shipped
    gives (.killFallingEdge 4) { s with banks := { s.banks with active := { s.banks.active with tag := ⟨true, 30⟩ } } }
      (fun t => t.sup.op = .safe && t.sup.latch = .held && t.sup.resume = .discovery && t.banks.pend = .empty
        && t.link.queue = [.blank] && t.salertLow
        && t.events.records = [⟨.kill, none, none, none, 1, ⟨true, 30⟩⟩]) = true := by decide

/-- Section 10.5's worked example, steps 3, 4 and 6. -/
theorem test_rearm :
    let s := { one .safe .reachable with sup := { SupervisorPort.reset 0 false with
        op := .safe, latch := .held, resume := .discovery } }
    gives (.rearm []) s (fun t => t.sup.lastResult = .wrongState && t.sup.op = .safe) = true
      ∧ gives (.killRisingEdge 4) s (fun t => t.sup.latch = .released) = true
      ∧ gives (.rearm []) { s with sup := { s.sup with latch := .released } } (fun t => t.sup.op = .discovery
        && t.sup.latch = .clear && t.link.queue = [.config 0 5 3 100 2 2 false]) = true := by decide

/-- R109: at the end of the solve a round begins: attempt counts 0, marks clear, the first LEVEL queued; at the last
LATCH's ending likewise, and with no driver to ship to the map is SHIPPED at once. -/
theorem test_round_begins :
    let spent := { entry 5 ⟨0, 0, 2, 2⟩ .failing with attempts := 3, failed := true }
    let begun (t : State) : Bool :=
      t.banks.pend = .solved && t.drivers.round = some [0]
        && (t.drivers.entryAt 0).map (fun e => (e.attempts, e.failed)) = some (0, false)
        && t.link.queue = [.level 0 5 .zero [0, 0, 0, 0]]
    gives .pass2Zone (phase (driver (grid 2 2 .run) 0 spent) .pass2 .picture 3) begun = true
      ∧ gives (.latchEnding false) (pend (schedule (line (driver (grid 2 2 .run) 0 spent) (.latch .zero 0) true 0) 1 0 0 1 0)
          .solved) begun = true
      ∧ gives .pass2Zone (phase (one .run .unreachable) .pass2 .picture 3) (fun t => t.banks.pend = .shipped
          && t.link.queue = []) = true := by decide

/-- R189: while RSTN is low every output is as its table has it, whatever the state. -/
theorem test_pins_in_reset :
    let s := one .safe .reachable
    s.pins s s ⟨false, false, false, [], false, byteBits 0x70, true, 0, .quiet, none⟩ = pinsInReset
      ∧ s.pins s s ⟨true, true, false, [], false, byteBits 0x70, true, 0, .quiet, none⟩ =
        ⟨.released, .released, .low, .low, .released, .high, .high, .low⟩ := by decide

/-- R183, R184: SOFT RESET with KILL low enters SAFE with the KILL record alone; power-on reset empties everything. -/
theorem test_resets :
    gives (.softReset []) { one .run .reachable with events := full, sup := { SupervisorPort.reset 0 false with
        op := .run } } (fun t => t.sup.op = .safe && t.sup.latch = .held && t.zone.cols = 2
        && t.events.records = [⟨.kill, none, none, none, 1, .zero⟩]) = true
      ∧ gives (.powerOnReset 3 true true true)
        { case2 with banks := { case2.banks with pendingBank := case2.banks.active } } (fun t =>
        t.zone.n = 0 && t.sup.op = .standby && t.supervisorAddress = 0x3B && t.timing.hold && t.salertLow = false
        && t.banks.pendingBank.zone 2 = ⟨1500, 1620, 1, 375, false, false, false, false⟩
        && t.banks.active.zone 2 = .reset) = true := by decide
/-! ### Witnesses: a state and operands that meet each statement's hypotheses, clause by clause -/

theorem witness_StepTakesTheFrontCommand : State.reset.pending = [] := by decide

/-- The start zone is one past the last zone, or the last one; order code 3 names none. -/
theorem witness_WriteHeadersAreRefusedOrTaken :
    let s := grid 2 2 .run
    s.zone.storeOpen = true ∧ { s.zone with storeOpen := false }.storeOpen = false
      ∧ positionStart 0x0040 = s.zone.cols * s.zone.rows ∧ positionOrder 0x003C = none
      ∧ positionStart 0x0038 + 1 = s.zone.cols * s.zone.rows ∧ positionOrder 0x0038 = some .quad := by decide

/-- A write at its last position, in a lock range and out of every one; a frame that is no write. -/
theorem witness_ValuesOfATakenWriteGoToTheirPosition :
    (3 < (grid 2 2 .run).zone.cols * (grid 2 2 .run).zone.rows)
      ∧ locked.zone.seqAt .raster 6 = some 6
      ∧ (∃ slot range, slot < 8 ∧ locked.zone.lockAt slot = some range ∧ range.first ≤ 6 ∧ 6 ≤ range.last)
      ∧ (∀ slot range, slot < 8 → (grid 2 2 .run).zone.lockAt slot = some range → ¬(range.first ≤ 3 ∧ 3 ≤ range.last))
      ∧ (∀ o k, State.reset.picture.frame ≠ .writeDemand o k)
      ∧ ∀ g o k, State.reset.picture.frame ≠ .writeGain g o k :=
  ⟨by decide, by decide, ⟨2, ⟨6, 8⟩, by decide⟩, (by intro _ _ _ h; cases h), (by intro _ _ h; cases h),
    (by intro _ _ _ h; cases h)⟩

/-- A frame that writes the last zone and wraps to the first. -/
theorem witness_DemandFrameFillsTheBank :
    let s := { grid 2 2 .run with
      pending := pictureFrame (0x21 :: 0x00 :: 0x30 :: demandBytes [7, 8]) ++ [Instr.transmitChoice] }
    s.zone.storeOpen = true ∧ positionStart 0x0030 + 1 = s.zone.cols * s.zone.rows
      ∧ positionOrder 0x0030 = some .raster
      ∧ s.pending = [.writeDemand 0x0030 false, .demandValue 7, .demandValue 8, .transmitChoice] := by decide

/-- No gain and 65 gains; one gain and 64 gains; a locked zone visited, and none. -/
theorem witness_SupervisorWriteGainIsAllOrNothing :
    ([0xFF] : List Byte).length / 2 = 0 ∧ (List.replicate 130 (0 : Byte)).length / 2 = 65
      ∧ (List.replicate 129 (0 : Byte)).length / 2 = 64
      ∧ positionStart ((0x00 : Byte) ++ (0xE0 : Byte)) + 1 = locked.zone.cols * locked.zone.rows
      ∧ positionOrder ((0x00 : Byte) ++ (0xE0 : Byte)) = some .raster
      ∧ (∃ k z, k < 1 ∧ locked.zone.seqAt .raster ((6 + k) % 15) = some z ∧ locked.zone.locked z = true)
      ∧ ∀ k z, k < 1 → (grid 5 3 .run).zone.seqAt .raster ((14 + k) % 15) = some z →
          (grid 5 3 .run).zone.locked z = false :=
  ⟨by decide, by simp, by simp, by decide, by decide, ⟨0, 6, by decide⟩, fun _ _ _ _ => rfl⟩

theorem witness_LocksHoldUntilPowerOnReset :
    exec .transmitChoice locked = .next locked ∧ (∀ a h k f, Instr.transmitChoice ≠ .powerOnReset a h k f)
      ∧ locked.zone.lockAt 2 = some ⟨6, 8⟩ ∧ locked.zone.locked 8 = true :=
  ⟨rfl, nofun, by decide, by decide⟩

/-- Slots 7 and 8, a slot in use, a run that ends at the last zone, one past it, and one whose ends are crossed. -/
theorem witness_ZoneCommandsActOnTheirRange :
    8 ≤ (8 : Byte).toNat ∧ (7 : Byte).toNat < 8 ∧ locked.zone.lockAt (2 : Byte).toNat ≠ none
      ∧ locked.zone.lockAt (7 : Byte).toNat = none
      ∧ (be16 0 14 ≤ be16 0 14 ∧ be16 0 14 < locked.zone.cols * locked.zone.rows)
      ∧ ¬(be16 0 14 ≤ be16 0 15 ∧ be16 0 15 < locked.zone.cols * locked.zone.rows)
      ∧ ¬(be16 0 2 ≤ be16 0 1 ∧ be16 0 1 < locked.zone.cols * locked.zone.rows) := by decide

/-- Outside STANDBY; with a solve in flight; sizes 0, 1, 64, 65, 40 and 41; a lock and none; each kind of frame. -/
theorem witness_SetGridRewritesTheZoneStore :
    ¬((grid 2 2 .run).sup.op = .standby ∧ (grid 2 2 .run).solver.phase = .idle)
      ∧ ¬((phase (grid 2 2 .standby) .pass1 .picture 0).solver.phase = .idle)
      ∧ ¬(1 ≤ (0 : Byte).toNat) ∧ ¬((65 : Byte).toNat ≤ 64) ∧ ¬((41 : Byte).toNat ≤ 40)
      ∧ (1 ≤ (64 : Byte).toNat ∧ (64 : Byte).toNat ≤ 64 ∧ 1 ≤ (1 : Byte).toNat ∧ (40 : Byte).toNat ≤ 40)
      ∧ (∃ slot, slot < 8 ∧ locked.zone.lockAt slot ≠ none)
      ∧ (∀ slot, slot < 8 → (grid 2 2 .standby).zone.lockAt slot = none)
      ∧ (grid 2 2 .standby).sup.op = .standby ∧ (grid 2 2 .standby).solver.phase = .idle :=
  ⟨by decide, by decide, by decide, by decide, by decide, by decide, ⟨2, by decide⟩, by decide, by decide, by decide⟩

/-- The last zone and one past it; counts 0, 1, 2560 and 2561. -/
theorem witness_ReadGainHidesLockedGainsFromThePicturePort :
    (let s := { locked with picture := ⟨.none, .readGain .a 14 2⟩ }
     s.picture.frame = .readGain .a 14 2 ∧ (lock s 0 0 14).picture.frame = .readGain .a 14 2 ∧ 1 < 2 ∧ 2 * 2 ≤ 4
      ∧ State.reset.picture.frame = .nothing)
      ∧ be16 0 14 % 4096 + 1 = locked.zone.cols * locked.zone.rows ∧ ¬(be16 0 15 < locked.zone.cols * locked.zone.rows)
      ∧ ¬(1 ≤ be16 0 0) ∧ (1 ≤ be16 0 1 ∧ be16 0 1 ≤ 2560) ∧ be16 10 0 = 2560 ∧ ¬(be16 10 1 ≤ 2560) := by decide

theorem witness_CloseFrameStartsAPictureSolve :
    (one .run .reachable).sup.op = .run ∧ (one .run .reachable).zone.storeOpen = true
      ∧ (0x20 : Byte).getLsbD 5 = true ∧ 3 ≤ ([1, 2, 3] : List Byte).length ∧ (0xDC : Byte).getLsbD 5 = false := by
  decide

/-- Each ground of refusal; a waiting map in either state, an idle solver without one, and a solve in flight. -/
theorem witness_CloseFrameIsRefusedOrReplacesWork :
    (grid 2 2 .standby).sup.op ≠ .run ∧ (0x20 : Byte).getLsbD 5 = true ∧ ([1, 2] : List Byte).length < 3
      ∧ (pend (one .run .reachable) .solved).banks.pend = .solved
      ∧ (pend (one .run .reachable) .shipped).banks.pend = .shipped
      ∧ (pend (one .run .reachable) .shipped).solver.phase = .idle
      ∧ (phase (pend (one .run .reachable) .solving) .pass2 .picture 1).solver.phase ≠ .idle
      ∧ (phase (pend (one .run .reachable) .solving) .pass2 .picture 1).zone.storeOpen = true := by decide

/-- One window of two announced is whole; a window at the last column, and one past it. -/
theorem witness_WindowsAreReadWholeAndClipped :
    (windowsOf 2 [1, 0, 9, 9, 0, 0, 0])[0]? = some ⟨1, 0, 9, 9⟩
      ∧ clipWindow 2 2 ⟨1, 0, 9, 9⟩ = some ⟨1, 0, 1, 1⟩ ∧ clipWindow 2 2 ⟨2, 0, 9, 9⟩ = none := by decide

/-- Two tiles side by side on a grid of four columns, the second under a focus window. -/
def sideBySide : Solver :=
  { State.reset.solver with
    params := { State.reset.solver.params with windows := [⟨2, 0, 3, 1⟩] }
    snapshot := [⟨0, ⟨0, 0, 2, 2⟩, 0, false⟩, ⟨1, ⟨2, 0, 2, 2⟩, 0, true⟩] }

/-- R28, R52: the tiles share no zone, and zones 1 and 2 stand on either side of the border. -/
theorem witness_Pass1FindsOwnerAndWindow :
    (∀ a ∈ sideBySide.snapshot, ∀ b ∈ sideBySide.snapshot, a ≠ b →
        ∀ x y, ¬(a.tile.contains x y = true ∧ b.tile.contains x y = true))
      ∧ (sideBySide.ownerOf 4 1).map SnapEntry.index = some 0 ∧ (sideBySide.ownerOf 4 2).map SnapEntry.index = some 1
      ∧ sideBySide.ownerOf 4 8 = none
      ∧ sideBySide.inFocus 4 1 = false ∧ sideBySide.inFocus 4 2 = true ∧ sideBySide.inFocus 4 7 = true := by
  refine ⟨?_, by decide⟩
  intro a ha b hb hab x y
  simp only [sideBySide, List.mem_cons, List.not_mem_nil, or_false] at ha hb
  obtain rfl | rfl := ha <;> obtain rfl | rfl := hb <;> simp [Tile.contains] at hab ⊢ <;> omega

/-- Zones of each class at the last zone, and an uncovered one. -/
theorem witness_Pass1HandlesAZoneByItsClass :
    (let s := phase (one .run .unreachable) .pass1 .picture 3; s.solver.phase = .pass1 ∧ s.solver.cursor + 1 = s.zone.cols * s.zone.rows
        ∧ (s.solver.ownerOf s.zone.cols 3).map SnapEntry.unreachable = some true)
      ∧ (let s := phase (one .run .failing) .pass1 .loss 3; (s.solver.ownerOf s.zone.cols 3).map SnapEntry.unreachable = some false
          ∧ s.zone.enabled 3 = true ∧ s.zone.faulty 3 = false
          ∧ { s.zone with enable := s.zone.enable.set true 3 false }.enabled 3 = false)
      ∧ (phase (grid 2 2 .run) .pass1 .picture 3).solver.ownerOf 2 3 = none := by decide

/-- A zone before the last and the last one; the factor step. -/
theorem witness_Pass1LeadsToTheFactorStep :
    (let s := phase (one .run .reachable) .pass1 .picture 2; s.solver.cursor + 1 < s.zone.cols * s.zone.rows ∧ gives .pass1Zone s (fun t => t.solver.phase = .pass1) = true)
      ∧ (let s := phase (one .run .reachable) .pass1 .loss 3; s.solver.cursor + 1 = s.zone.cols * s.zone.rows
          ∧ gives .pass1Zone s (fun t => t.solver.phase = .factor) = true)
      ∧ (phase (one .run .reachable) .factor .picture 0).solver.phase = .factor := by decide

/-- A carried zone, an active zone, the last zone; each ending of pass 2. -/
theorem witness_Pass2WritesTheMap :
    (let s := phase (one .run .reachable) .pass2 .picture 2; s.solver.cursor + 1 < s.zone.cols * s.zone.rows
        ∧ (s.banks.pendingBank.zone 2).held = false ∧ (s.banks.pendingBank.zone 2).inactive = false
        ∧ (s.solver.ownerOf s.zone.cols 2).isSome = true ∧ s.solver.voided = false)
      ∧ (let s := phase (one .run .reachable) .pass2 .picture 3; s.solver.cursor + 1 = s.zone.cols * s.zone.rows ∧ s.timing.gateOpen = true ∧ s.drivers.shippable = 0 :: [] ∧ (s.drivers.entryAt 0).isSome = true
          ∧ { s.solver with voided := true }.voided = true)
      ∧ (phase (one .run .unreachable) .pass2 .picture 3).drivers.shippable = []
      ∧ (schedule (one .run .reachable) 1 0 0 1 0).timing.gateOpen = false
      ∧ ((case2.banks.active.putZone 3 ⟨300, 300, 3, 75, true, false, false, false⟩).zone 3).held = true := by decide

/-- The ends of every branch: a level step each way and none, and sums 4095 and 4096. -/
theorem witness_StagesComputeTheirFormulas :
    (State.reset.solver.params.sceneCut = false ∧ { State.reset.solver.params with sceneCut := true }.sceneCut = true)
      ∧ (4095 : Nat) ≤ 4095 ∧ (3 : Nat) ≤ 3 ∧ 4092 + 3 ≤ 4095 ∧ 4096 ≤ 4093 + 3 := by decide

/-- Each branch at its edge (section 3.6, cases B to D). -/
theorem witness_FactorsFitTheBudgetAndRecoverByOneStep :
    4500 = 6000 - 1500 ∧ 2500 + 2000 ≤ 4500 ∧ 4500 < 2501 + 2000 ∧ 2000 < 4500
      ∧ (3500 ≤ 3500 ∧ 3500 < 1000 + 3500 ∧ 0 < 3500) ∧ (0 = 2000 - 2600 ∧ 0 < 700 + 0) := by decide

/-- Too short; from either level; outside RUN; with HOLD high; 3,999 µs and 4,000 µs after the reference; without one; in free-run. -/
theorem witness_FsyncEdgesAreJudged :
    let s := { grid 2 2 .run with timing := { FrameTiming.reset false true with edgeRef := some 0 } }
    (3 < 4 ∧ (grid 2 2 .standby).sup.op ≠ .run ∧ (FrameTiming.reset true true).hold = true ∧ s.timing.fsync = true
        ∧ (FrameTiming.reset true false).fsync = false)
      ∧ (s.sup.op = .run ∧ s.timing.hold = false ∧ s.timing.freeRun = .off ∧ s.timing.edgeRef = some 0)
      ∧ max s.now 3999 - 0 < 4000 ∧ 4000 ≤ max s.now 4000 - 0
      ∧ (grid 2 2 .run).timing.edgeRef = none ∧ FreeRun.running 16667 ≠ .off := by decide

/-- No schedule; every band due; the last band not yet due. -/
theorem witness_FrameStartWithoutAShippedMapIsLate :
    (pend (grid 2 2 .run) .solved).banks.pend ≠ .shipped ∧ (grid 2 2 .run).timing.schedule = none
      ∧ (schedule (grid 2 2 .run) 4 0 0 4 3).timing.schedule = some ⟨.zero, 4, 0, 0, 0, 4, 3⟩
      ∧ (schedule (grid 2 2 .run) 4 0 0 3 3).timing.schedule = some ⟨.zero, 4, 0, 0, 0, 3, 3⟩ := by decide

/-- In RUN, in free-run and outside RUN. -/
theorem witness_HoldSuspendsAndRestartsTheFrameClock :
    (3 < 4 ∧ 4 ≤ 4) ∧ (grid 2 2 .safe).sup.op ≠ .run ∧ (grid 2 2 .run).sup.op = .run
      ∧ (grid 2 2 .run).timing.hold = false ∧ ((grid 2 2 .run).timing.holdRise .run).hold = true
      ∧ (grid 2 2 .run).timing.freeRun = .off ∧ FreeRun.paused ≠ .off := by decide

/-- A running and a stopped timer; an idle solver and a busy one; a map that may and one that may not be replaced. -/
theorem witness_SignalLossStartsFreeRunAndLossSolves :
    (({ FrameTiming.reset false true with lossTimer := some 5 } : FrameTiming).lossTimer = some 5)
      ∧ (FrameTiming.reset false true).lossTimer = none
      ∧ ({ FrameTiming.reset false true with freeRun := .running 9 } : FrameTiming).freeRun = .running 9
      ∧ (∀ t, (FrameTiming.reset false true).freeRun ≠ .running t)
      ∧ (phase (grid 2 2 .run) .pass1 .loss 0).solver.phase ≠ .idle
      ∧ (pend (grid 2 2 .run) .solved).solver.phase = .idle
      ∧ ¬((pend (grid 2 2 .run) .solved).banks.pend = .solved
          ∧ (pend (grid 2 2 .run) .solved).banks.source = .pictureInLoss)
      ∧ (pend (grid 2 2 .run) .shipped).banks.pend = .shipped ∧ (grid 2 2 .run).banks.pend = .empty
      ∧ (24999 - 0 < max 1 (min 16 (0 : Byte).toNat) * 25000
          ∧ max 1 (min 16 (0 : Byte).toNat) * 25000 ≤ 25000 - 0) :=
  ⟨by decide, by decide, by decide, (by intro _ h; cases h), by decide, by decide, by decide, by decide, by decide,
    by decide⟩

/-- As many rows as bands; a tile that ends at the last row, all of its bands latched. -/
theorem witness_BandsDivideTheRows :
    (0 < 16 ∧ 16 ≤ 16) ∧ ([1, 2, 3, 4] : List Nat).length = 2 * 2 ∧ 38 + 2 ≤ 40 ∧ (∀ b, b < 2 → b ∈ [1, 0])
      ∧ (⟨true, 1⟩ : Tag) ≠ ⟨false, 1⟩ := by decide

/-- The last band, no band left, no schedule; in the gap and past it; the poll timer running and stopped. -/
theorem witness_TimedEventsQueueTheirMessages :
    (schedule (grid 2 2 .run) 4 0 0 3 3).timing.schedule = some ⟨.zero, 4, 0, 0, 0, 3, 3⟩
      ∧ (schedule (grid 2 2 .run) 4 0 0 4 3).timing.schedule = some ⟨.zero, 4, 0, 0, 0, 4, 3⟩
      ∧ State.reset.timing.schedule = none ∧ State.reset.link.resetGap = true
      ∧ (queued State.reset []).link.resetGap = false ∧ ({ Link.reset with pollTimer := some 0 }).pollTimer = some 0
      ∧ State.reset.link.pollTimer = none := by decide
/-- Entries of one driver, whatever the index asked for. -/
theorem one_entry (op : OpState) (x : DriverState) (i : Nat) :
    (one op x).drivers.entryAt i = if i = 0 then some (entry 5 ⟨0, 0, 2, 2⟩ x) else none :=
  DriverTable.entryAt_put _ 0 i _

/-- One driver over the whole grid meets the invariant of the Driver Table. -/
theorem one_driverInv (op : OpState) (x : DriverState) : DriverInv (one op x) := by
  constructor
  · intro i e h
    rw [one_entry] at h
    split at h
    · injection h with h
      subst h
      rename_i hi
      subst hi
      exact ⟨by decide, rfl, Nat.zero_le _, Nat.zero_le _, Nat.le_refl 2, Nat.le_refl 2⟩
    · cases h
  · intro i j e f h h'
    rw [one_entry] at h h'
    by_cases hi : i = 0
    · by_cases hj : j = 0
      · omega
      · rw [if_neg hj] at h'
        cases h'
    · rw [if_neg hi] at h
      cases h

/-- A SHIPPED map with its driver failed, on an open gate. -/
theorem witness_FrameStartCommitsAShippedMap :
    let s := pend (driver (grid 2 2 .run) 0 { entry 5 ⟨0, 0, 2, 2⟩ .failing with failed := true, misses := 3 }) .shipped
    GateInv s ∧ s.banks.pend = .shipped ∧ GateInv (pend (one .run .reachable) .shipped)
      ∧ DriverInv (pend (one .run .reachable) .shipped)
      ∧ (s.drivers.entryAt 0).map DriverEntry.failed = some true
      ∧ (⟨0, 0, 2, 2⟩ : Tile).contains (3 % 2) (3 / 2) = true ∧ 3 < s.zone.cols * s.zone.rows := by
  refine ⟨?_, by decide, ?_, one_driverInv .run .reachable, by decide, by decide, by decide⟩ <;>
    (unfold GateInv; decide)

/-- A LATCH and a BLANK on the line at their first and their second resend and with the claim withdrawn; no schedule,
a band before the last, and the last band, with a map waiting to be shipped, one with nothing to ship, and none. -/
theorem witness_BroadcastsAreResentAtMostTwice :
    let on (s : State) (m : Message) (claim : Bool) (n : Nat) := line s m claim n
    (on (one .run .reachable) (.latch .zero 1) true 1).link.line = .message ⟨.latch .zero 1, true, 1, true⟩
      ∧ (on (one .run .reachable) (.latch .zero 1) false 0).link.line = .message ⟨.latch .zero 1, false, 0, true⟩
      ∧ (on (one .run .reachable) .blank true 2).link.line = .message ⟨.blank, true, 2, true⟩
      ∧ (1 < 2 ∧ 2 ≤ 2) ∧ (one .run .reachable).timing.schedule = none
      ∧ (schedule (one .run .reachable) 4 0 0 4 2).timing.schedule = some ⟨.zero, 4, 0, 0, 0, 4, 2⟩ ∧ 2 + 1 < 4
      ∧ (schedule (one .run .reachable) 4 0 0 4 3).timing.schedule = some ⟨.zero, 4, 0, 0, 0, 4, 3⟩ ∧ 4 ≤ 3 + 1
      ∧ (pend (schedule (one .run .reachable) 4 0 0 4 3) .solved).banks.pend = .solved
      ∧ (pend (schedule (one .run .reachable) 4 0 0 4 3) .solved).drivers.shippable = 0 :: []
      ∧ ((pend (schedule (one .run .reachable) 4 0 0 4 3) .solved).drivers.entryAt 0).isSome = true
      ∧ (pend (schedule (one .run .unreachable) 4 0 0 4 3) .solved).drivers.shippable = []
      ∧ (schedule (one .run .reachable) 4 0 0 4 3).banks.pend ≠ .solved := by decide

/-- Indices 47 and 48; a load that passes every check, one whose address is in use and one that leaves the grid. -/
theorem witness_LoadDriverChecksTileAndAddress :
    DriverInv (one .standby .unprobed) ∧ (one .standby .unprobed).sup.op = .standby
      ∧ (grid 2 2 .run).sup.op ≠ .standby ∧ 48 ≤ (48 : Byte).toNat ∧ (47 : Byte).toNat < 48
      ∧ 2 ≤ (2 : Byte).toNat
      ∧ (line (one .run .reachable) (.read 0 5 .rotation) true 0).link.line =
          .message ⟨.read 0 5 .rotation, true, 0, true⟩
      ∧ (∀ i addr asker claim resends kept,
          (grid 2 2 .run).link.line ≠ .message ⟨.read i addr asker, claim, resends, kept⟩)
      ∧ ((62 : Byte).toNat ≤ 62 ∧ (16 : Byte).toNat ≤ 16 ∧ (4 : Byte).toNat ≤ 16 ∧ (16 : Byte).toNat * (4 : Byte).toNat ≤ 64
        ∧ (3 : Byte).toNat ≤ 3 ∧ (15 : Byte).toNat ≤ 15
        ∧ (48 : Byte).toNat + (16 : Byte).toNat ≤ (grid 64 40 .standby).zone.cols
        ∧ (36 : Byte).toNat + (4 : Byte).toNat ≤ (grid 64 40 .standby).zone.rows
        ∧ ∀ j, (grid 64 40 .standby).drivers.entryAt j = none)
      ∧ (entry 5 ⟨0, 0, 2, 2⟩ .unprobed).addr = (5 : Byte).toNat
      ∧ ¬((1 : Byte).toNat + (2 : Byte).toNat ≤ (one .standby .unprobed).zone.cols) :=
  ⟨one_driverInv _ _, by decide, by decide, by decide, by decide, by decide, by decide, (by intros; simp [grid, State.reset, Link.reset]),
    ⟨by decide, by decide, by decide, by decide, by decide, by decide, by decide, by decide, fun _ => rfl⟩, by decide,
    by decide⟩

/-- Refused on each ground, taken; a first entry at index 0, and no entry. -/
theorem witness_StartBeginsDiscovery :
    (grid 2 2 .run).sup.op ≠ .standby ∧ (grid 0 0 .standby).zone.cols * (grid 0 0 .standby).zone.rows = 0
      ∧ (SupervisorPort.reset 0 false).kill = false
      ∧ (grid 2 2 .standby).zone.cols * (grid 2 2 .standby).zone.rows ≠ 0 ∧ (grid 2 2 .standby).sup.kill = true
      ∧ (one .standby .unreachable).drivers.entryAt 0 = some (entry 5 ⟨0, 0, 2, 2⟩ .unreachable)
      ∧ ∀ i, i < 48 → (grid 2 2 .standby).drivers.entryAt i = none :=
  ⟨by decide, by decide, by decide, by decide, by decide, by decide, fun _ _ => rfl⟩

/-- A discovery CONFIG on the line; a next entry; and, behind the last, one REACHABLE and none. -/
theorem witness_DiscoveryWorksThroughTheEntries :
    (line (one .discovery .unprobed) (.config 0 5 3 100 2 2 false) true 0).link.line =
        .message ⟨.config 0 5 3 100 2 2 false, true, 0, true⟩
      ∧ (one .discovery .unprobed).drivers.entryAt 0 = some (entry 5 ⟨0, 0, 2, 2⟩ .unprobed)
      ∧ accept = ⟨true, 0⟩ ∧ silent ≠ ⟨true, 0⟩
      ∧ DriverInv (one .discovery .reachable) ∧ DriverInv (one .discovery .unreachable)
      ∧ (∀ j, 0 < j → (one .discovery .reachable).drivers.entryAt j = none)
      ∧ (∀ j e, (one .discovery .unreachable).drivers.entryAt j = some e → e.state ≠ .reachable)
      ∧ (∃ e, (driver (grid 2 2 .discovery) 1 (entry 5 ⟨0, 0, 2, 2⟩ .unprobed)).drivers.entryAt 1 = some e)
      ∧ ∀ k, 0 < k → k < 1 → (driver (grid 2 2 .discovery) 1 (entry 5 ⟨0, 0, 2, 2⟩ .unprobed)).drivers.entryAt k = none := by
  refine ⟨by decide, by decide, by decide, by decide, one_driverInv _ _, one_driverInv _ _, ?_, ?_, ⟨_, rfl⟩, ?_⟩
  · intro j h
    rw [one_entry, if_neg (by omega)]
  · intro j e h
    rw [one_entry] at h
    split at h
    · injection h with h
      subst h
      decide
    · cases h
  · intro k h h'
    omega

/-- A LEVEL of the entry at the head of the round, at its second and at its third attempt; each kind of ending. -/
theorem witness_LevelEndingsWorkTheRoundsList :
    (let s := line (one .run .reachable) (.level 0 5 .zero [0, 0, 0, 0]) true 0
     s.link.line = .message ⟨.level 0 5 .zero [0, 0, 0, 0], true, 0, true⟩
      ∧ (s.drivers.entryAt 0).isSome = true ∧ { s.drivers with round := some [0, 1] }.round = some (0 :: [1]))
      ∧ (let s := line (one .run .reachable) (.level 0 5 .zero [0, 0, 0, 0]) false 0
        s.link.line = .message ⟨.level 0 5 .zero [0, 0, 0, 0], false, 0, true⟩ ∧ s.drivers.round = none)
      ∧ (1 + 1 < 3 ∧ 3 ≤ 2 + 1)
      ∧ endingOf accept = .accept ∧ endingOf busy = .busy ∧ endingOf ⟨true, 2⟩ = .checksumError
      ∧ endingOf silent = .noResponse := by decide

/-- A round with an entry at its head; an empty one with a rotation READ queued, without, and with no entry left. -/
theorem witness_RoundsShipEveryListedEntryThenTheMapIsShipped :
    ({ (one .run .reachable).drivers with round := some [0] }.round = some [0])
      ∧ (one .run .reachable).drivers.entryAt 0 = some (entry 5 ⟨0, 0, 2, 2⟩ .reachable)
      ∧ (let s := pend (queued (one .run .reachable) []) .solved
         s.banks.pend = .solved ∧ s.timing.gateOpen = true ∧ (∀ m ∈ s.link.queue, m.isRotation = false)
          ∧ s.drivers.shippable = [0]
          ∧ ((0 + 48 - ((s.drivers.rotation.map fun x => x + 1).getD 0)) % 48 = 0))
      ∧ (∃ m ∈ (queued (one .run .reachable) [.read 0 5 .rotation]).link.queue, m.isRotation = true)
      ∧ (one .run .unreachable).drivers.shippable = [] := by
  refine ⟨by decide, by decide, by decide, ⟨.read 0 5 .rotation, by decide, by decide⟩, by decide⟩

/-- Index 48; an entry that is not UNREACHABLE; one that is, with its probe outstanding and not; a CONFIG on the line. -/
theorem witness_ProbesRecoverADriver :
    (grid 2 2 .standby).sup.op ≠ .run ∧ 48 ≤ (48 : Byte).toNat ∧ (47 : Byte).toNat < 48
      ∧ ((one .run .reachable).drivers.entryAt 0).map DriverEntry.state = some .reachable
      ∧ ((one .run .unreachable).drivers.entryAt 0).map DriverEntry.state = some .unreachable
      ∧ 0 ∈ ([0] : List Nat) ∧ 0 ∉ (one .run .unreachable).drivers.probes
      ∧ (line (one .run .unreachable) (.config 0 5 3 100 2 2 true) true 0).link.line =
        .message ⟨.config 0 5 3 100 2 2 true, true, 0, true⟩
      ∧ endingOf accept = .accept ∧ endingOf busy ≠ .accept := by decide

/-- A busy line and one in its gap; a resend waiting in SAFE; an empty queue; a first message that may go, and one that
may not; a message begun. -/
theorem witness_TheArbiterBeginsTheFirstServable :
    ([.blank, .latch .zero 0, .poll] : List Message).Pairwise (fun a b => a.cls ≤ b.cls)
      ∧ Line.arbitration ≠ .idle ∧ State.reset.link.resetGap = true
      ∧ (queued (one .run .reachable) []).link.line = .idle ∧ (queued (one .run .reachable) []).link.resetGap = false
      ∧ (queued (one .run .reachable) []).link.resend = none ∧ (Message.blank = .blank)
      ∧ (some (⟨.latch .zero 0, true, 1, true⟩ : InFlight)).map InFlight.msg ≠ some .blank
      ∧ (one .safe .reachable).sup.op = .safe
      ∧ removable .run (one .run .reachable).drivers (.read 0 5 .rotation) = false
      ∧ removable .run (one .run .unreachable).drivers (.read 0 5 .rotation) = true
      ∧ removable .safe (one .safe .reachable).drivers (.latch .zero 0) = true
      ∧ gives .transmitChoice (queued (one .run .reachable) [.read 0 5 .rotation]) (fun t =>
          t.link.line = .message ⟨.read 0 5 .rotation, true, 0, true⟩) = true := by decide

/-- Intervals 0, 1, 15 and 16; a rate that changes and one that does not. -/
theorem witness_SetLinkStoresAllThree :
    ¬(1 ≤ (0 : Byte).toNat ∧ (0 : Byte).toNat ≤ 15) ∧ ¬((16 : Byte).toNat ≤ 15) ∧ ¬((2 : Byte).toNat ≤ 1)
      ∧ ((1 : Byte).toNat ≤ 1 ∧ 1 ≤ (1 : Byte).toNat ∧ (15 : Byte).toNat ≤ 15)
      ∧ LinkRate.mhz10 ≠ State.reset.link.rate ∧ (grid 2 2 .run).sup.op ≠ .standby
      ∧ LinkRate.mhz20 = State.reset.link.rate := by decide

/-- A POLL on the line; an address with a REACHABLE entry, one whose READ is queued, an UNREACHABLE entry's, none. -/
theorem witness_AttentionRequestsAreResolved :
    (line (one .run .reachable) .poll true 0).link.line = .message ⟨.poll, true, 0, true⟩
      ∧ (one .run .reachable).drivers.entryAt 0 = some (entry 5 ⟨0, 0, 2, 2⟩ .reachable)
      ∧ (∀ j f, j < 48 → (one .run .reachable).drivers.entryAt j = some f → f.addr = 5 → j = 0)
      ∧ (∀ a, .read 0 a .attention ∉ (queued (one .run .reachable) []).link.queue)
      ∧ .read 0 5 .attention ∈ (queued (one .run .reachable) [.read 0 5 .attention]).link.queue
      ∧ ¬((entry 5 ⟨0, 0, 2, 2⟩ .unreachable).state = .reachable
          ∨ (entry 5 ⟨0, 0, 2, 2⟩ .unreachable).state = .failing)
      ∧ ∀ i e, i < 48 → (one .run .reachable).drivers.entryAt i = some e → e.addr ≠ 6 := by
  refine ⟨by decide, by decide, ?_, nofun, by decide, by decide, ?_⟩
  · intro j f _ h _
    rw [one_entry] at h
    split at h
    · assumption
    · cases h
  · intro i e _ h
    rw [one_entry] at h
    split at h
    · injection h with h
      subst h
      decide
    · cases h

/-- An open window, in either line mode, with the hold and without; an arbitration with address 62, and with 63. -/
theorem witness_AttentionWindowsStartArbitrations :
    (let s := queued (one .run .reachable) []
     s.link.line = .idle ∧ s.link.resetGap = false ∧ s.link.lineMode = .quiet ∧ s.link.resend = none
      ∧ s.link.attentionHold = false ∧ s.link.queue = [])
      ∧ ({ Link.reset with attentionHold := true, queue := [.poll] }.attentionHold = true)
      ∧ ({ Link.reset with lineMode := .polled }.lineMode ≠ .quiet)
      ∧ ¬(State.reset.link.resetGap = false)
      ∧ ({ Link.reset with line := .arbitration }.line = .arbitration)
      ∧ (62 : BitVec 6).toNat < 63 ∧ (63 : BitVec 6).toNat = 63 := by decide

/-- A field of no more bits than it has, and one period driven low. -/
theorem witness_MessagesRunInSequence :
    (63 < 2 ^ 6) ∧ (arbitrationDriven .quiet)[1]? = some false ∧ Message.poll ≠ .blank := by decide

/-- The coldest and the hottest report, with a fault at local zone 63; a short group; a response of cause '11'. -/
theorem witness_LinkFieldsAreReadBack :
    (-40 : Int) ≤ -40 ∧ (150 : Int) ≤ 150 ∧ ([⟨63, true⟩] : List FaultEntry).length ≤ 64
      ∧ (∀ f ∈ ([⟨63, true⟩] : List FaultEntry), f.zone < 64) ∧ endingOf accept = .accept
      ∧ endingOf silent ≠ .accept
      ∧ ([true, false, true] : List Bool).length < 8
      ∧ readReportOf accept (List.replicate 10 false ++ [true, true] ++ List.replicate 15 false) = none
      ∧ readReportOf accept (ReadReport.response ⟨-40, .none, [⟨63, true⟩]⟩) = some ⟨-40, .none, [⟨63, true⟩]⟩ := by
  decide

/-- A READ of a present entry, of one loaded since, of an absent one; a valid response and an invalid one. -/
theorem witness_ReadEndingsUpdateTheThermalRecord :
    (line (one .run .reachable) (.read 0 5 .rotation) true 0).link.line =
        .message ⟨.read 0 5 .rotation, true, 0, true⟩
      ∧ (one .run .reachable).drivers.entryAt 0 = some (entry 5 ⟨0, 0, 2, 2⟩ .reachable)
      ∧ (grid 2 2 .run).drivers.entryAt 0 = none
      ∧ readReportOf accept (ReadReport.response ⟨25, .none, []⟩) = some ⟨25, .none, []⟩
      ∧ readReportOf silent [] = none := by decide

/-- Temperatures at both ends of the derate range and between; 95, 94, 90 and 89 °C at threshold 95; the three kinds
of ACK ALERT. -/
theorem witness_ThermalStateAndCapFollowTheTemperature :
    ((70 : Int) < 100 ∧ 1024 ≤ 4095 ∧ (70 : Int) ≤ 70 ∧ (100 : Int) ≤ 100 ∧ (70 : Int) < 71 ∧ (71 : Int) < 100)
      ∧ ((95 : Int) ≤ 95 ∧ (95 : Int) - 5 ≤ 90 ∧ (94 : Int) < 95 ∧ (89 : Int) < 95 - 5)
      ∧ 48 ≤ (48 : Byte).toNat ∧ (grid 2 2 .run).drivers.entryAt (47 : Byte).toNat = none
      ∧ (one .run .reachable).drivers.entryAt 0 ≠ none
      ∧ ((one .run .reachable).thermal.get .reset 0).state = .normal ∧ ThermalState.acknowledged ≠ .normal := by decide

/-- A record that matches, a full queue, a queue with one place left, and an empty one. -/
theorem witness_PostsCoalesceAreAddedOrDropped :
    full.records = full.records.take 31 ++ ⟨.zoneOpen, some 0, some 31, none, 1, .zero⟩ :: []
      ∧ (∀ x ∈ full.records.take 31 ++ [], ¬(x.kind = .zoneOpen ∧ x.driver = some 0 ∧ x.zone = some 31))
      ∧ (∀ x ∈ full.records, ¬(x.kind = .kill ∧ x.driver = none ∧ x.zone = none)) ∧ 32 ≤ full.records.length
      ∧ (full.records.take 31).length < 32 ∧ State.reset.events.records = []
      ∧ (full.records.Pairwise fun a b => ¬(a.kind = b.kind ∧ a.driver = b.driver ∧ a.zone = b.zone)) := by decide

/-- SAFE; the last zone and one past it; counts 1, 2560 and 2561; each pending state; a copy on both ports. -/
theorem witness_MapReadsCopyTheBankTheyName :
    (grid 2 2 .safe).sup.op = .safe ∧ (grid 2 2 .run).sup.op ≠ .safe
      ∧ (3 : BitVec 16).toNat % 4096 + 1 = (grid 2 2 .run).zone.cols * (grid 2 2 .run).zone.rows
      ∧ ¬((4 : BitVec 16).toNat % 4096 < (grid 2 2 .run).zone.cols * (grid 2 2 .run).zone.rows)
      ∧ (1 ≤ (1 : BitVec 16).toNat ∧ (2560 : BitVec 16).toNat ≤ 2560 ∧ ¬((2561 : BitVec 16).toNat ≤ 2560))
      ∧ (0 : Byte).getLsbD 0 = false ∧ (1 : Byte).getLsbD 0 = true
      ∧ (pend (grid 2 2 .run) .shipped).banks.pend = .shipped ∧ (grid 2 2 .run).banks.pend = .empty
      ∧ (∀ e ∈ ([⟨4095, true, true, true, true⟩] : List MapEntry), e.level ≤ 4095)
      ∧ (let a : MapAnswer := ⟨some .valid, ⟨true, 5⟩, [⟨4095, true, true, true, true⟩]⟩
         (⟨.none, .readMap a⟩ : PicturePort).frame = .readMap a
          ∧ { SupervisorPort.reset 0 true with readPointer := some (.map a) }.readPointer = some (.map a)) := by decide

/-- Each record held, and none; a read command and one that is none; a write and a read transaction to the port, and one
to another address. -/
theorem witness_RecordsAreSentByteByByte :
    gives (.pictureReadStatus false) (grid 2 2 .run) (fun t => t.picture.frame = .readStatus (grid 2 2 .run).pictureStatus)
        = true
      ∧ State.reset.sup.readPointer = none
      ∧ gives (.supervisorReadStatus []) (grid 2 2 .run) (fun t =>
          t.sup.readPointer = some (.status (grid 2 2 .run).supervisorStatus)) = true
      ∧ gives (.popEvent []) { State.reset with events := full } (fun t =>
          t.sup.readPointer = some (.event (some ⟨.zoneOpen, some 0, some 0, none, 1, .zero⟩))) = true
      ∧ gives (.popEvent []) State.reset (fun t => t.sup.readPointer = some (.event none)) = true
      ∧ gives (.readDriver [0]) (one .run .reachable) (fun t =>
          t.sup.readPointer = some (.driver (some (entry 5 ⟨0, 0, 2, 2⟩ .reachable)) .reset)) = true
      ∧ gives (.readDriver [1]) (one .run .reachable) (fun t => t.sup.readPointer = some (.driver none .reset)) = true
      ∧ gives (.readPower []) State.reset (fun t => t.sup.readPointer = some (.power (.all .reset))) = true
      ∧ gives (.supervisorReadGain [0, 0, 0, 0, 1]) locked (fun t => t.sup.readPointer = some (.gains [1024])) = true
      ∧ (⟨true, true, true, [], true, [], true, 0, .quiet, none⟩ : Moment).csn = true
      ∧ (⟨true, true, true, [], true, [], true, 0, .quiet, none⟩ : Moment).rstn = true
      ∧ ([true, true, true, true, true, true, true] : List Bool).length < 8
      ∧ (0x21 : Byte) ≠ 0x41 ∧ (0x21 : Byte) ≠ 0x4F ∧ (0x21 : Byte) ≠ 0x62
      ∧ State.reset.acknowledges 0x70 = true ∧ State.reset.acknowledges 0x71 = true
      ∧ State.reset.acknowledges 0x72 = false ∧ (0x70 : Byte).toNat % 2 = 0 ∧ (0x71 : Byte).toNat % 2 = 1 := by decide

/-- Indices 47 and 48; SAFE; the last zone and one past it; bytes that name no command. -/
theorem witness_SupervisorReadsFixTheirCopies :
    48 ≤ (48 : Byte).toNat ∧ (47 : Byte).toNat < 48 ∧ (grid 2 2 .safe).sup.op = .safe ∧ (grid 2 2 .run).sup.op ≠ .safe
      ∧ be16 0 3 + 1 = (grid 2 2 .run).zone.cols * (grid 2 2 .run).zone.rows ∧ 1 ≤ be16 0 1 ∧ be16 10 0 ≤ 2560
      ∧ ¬(be16 10 1 ≤ 2560) ∧ (Instr.pictureUnknownCommand 0x20).wellFormed = true
      ∧ (Instr.supervisorUnknownCommand 0x86).wellFormed = true := by decide

/-- Domains 3 and 4; every command one byte short; PROBE in RUN; SET GRID and LOAD DRIVER in STANDBY. -/
theorem witness_SettingsAreStoredClampedOrRefused :
    (3 : Byte).toNat < 4 ∧ 4 ≤ (4 : Byte).toNat ∧ ([0, 0, 0, 0, 0] : List Byte).length < 6
      ∧ ([0, 0, 0, 0] : List Byte).length < 5 ∧ ([0, 0, 0] : List Byte).length < 4
      ∧ ([0, 0] : List Byte).length < 3 ∧ ([0] : List Byte).length < 2 ∧ (grid 2 2 .run).sup.op = .run
      ∧ ([7, 0, 0, 0] : List Byte) = 7 :: [0, 0, 0] ∧ ([7, 0, 0, 0] : List Byte).length < 5
      ∧ (7 : Byte).toNat < 8 ∧ 8 ≤ (8 : Byte).toNat ∧ locked.zone.lockAt (2 : Byte).toNat ≠ none
      ∧ locked.zone.lockAt (7 : Byte).toNat = none ∧ ([0, 1, 0, 0, 0, 1, 1, 0, 0] : List Byte).length < 10
      ∧ ([0, 1, 0, 0, 0, 1, 1, 0, 0] : List Byte) = 0 :: 1 :: [0, 0, 0, 1, 1, 0, 0]
      ∧ ¬((grid 2 2 .run).sup.op = .standby ∧ (grid 2 2 .run).solver.phase = .idle)
      ∧ (grid 2 2 .standby).sup.op ≠ .run
      ∧ (grid 2 2 .standby).sup.op = .standby ∧ (grid 2 2 .standby).solver.phase = .idle := by decide

/-- A commit, whose tag moves; a command that is none of the excepted ones. -/
theorem witness_EachCommandLeavesTheRestAlone :
    (let s := pend (one .run .reachable) .shipped
     gives (.fsyncFallingEdge 9000 4 4) { s with banks := { s.banks with
        pendingBank := { s.banks.pendingBank with tag := ⟨true, 1⟩ } } } (fun t =>
          t.banks.active.tag = ⟨true, 1⟩ && s.banks.pend = .shipped) = true)
      ∧ (∀ v, Instr.factorStep ≠ .demandValue v) ∧ (∀ a h k f, Instr.factorStep ≠ .powerOnReset a h k f)
      ∧ (∀ p, Instr.factorStep ≠ .setGrid p)
      ∧ (State.raise .runtFs State.reset).picture.flags.set .runtFs = (State.raise .runtFs State.reset).picture.flags
      ∧ (full.post .zero .kill none none none).overflow = true
      ∧ (grid 2 2 .run).picture.flags.set .lateWrite ≠ (grid 2 2 .run).picture.flags
      ∧ gives (.writeDemand 0 false) { grid 2 2 .run with zone := { (grid 2 2 .run).zone with storeOpen := false } }
          (fun t => t.picture.flags.set .lateWrite = t.picture.flags && t.sup.flags.set .lateWrite = t.sup.flags) = true
      ∧ full.overflow = false
      ∧ gives (.killFallingEdge 4) { grid 2 2 .run with events := full } (fun t =>
          t.events.overflow && t.events.records.length = 32) = true :=
  ⟨by decide, nofun, nofun, nofun, by decide, by decide, by decide, by decide, by decide, by decide⟩

/-- Each operating state; a pulse of 3 periods and one of 4; a message in flight, a BLANK and a LATCH resend. -/
theorem witness_StopAndKillEndEveryOperation :
    (grid 2 2 .safe).sup.op = .safe ∧ (grid 2 2 .standby).sup.op = .standby ∧ (grid 2 2 .discovery).sup.op = .discovery
      ∧ (grid 2 2 .run).sup.op = .run ∧ 3 < 4 ∧ 4 ≤ 4
      ∧ (line (grid 2 2 .run) .blank true 1).link.line = .message ⟨.blank, true, 1, true⟩
      ∧ (∀ m, (grid 2 2 .run).link.line ≠ .message m)
      ∧ (grid 2 2 .run).sup.kill = true ∧ (SupervisorPort.reset 0 false).kill = false
      ∧ ({ Link.reset with resend := some ⟨.latch .zero 2, true, 1, true⟩ }.resend =
          some ⟨.latch .zero 2, true, 1, true⟩) ∧ Link.reset.resend = none :=
  ⟨by decide, by decide, by decide, by decide, by decide, by decide, by decide, nofun, by decide, by decide, by decide,
    by decide⟩

/-- SAFE with the latch HELD and RELEASED, and each resume target. -/
theorem witness_RearmLeavesSafeOnceReleased :
    (let s := { SupervisorPort.reset 0 true with op := .safe, latch := .held, resume := .discovery }
     s.op = .safe ∧ s.latch = .held ∧ s.latch ≠ .released ∧ s.resume = .discovery
      ∧ { s with latch := .released, resume := .standby }.latch = .released
      ∧ { s with latch := .released, resume := .standby }.resume = .standby)
      ∧ (grid 2 2 .run).sup.op ≠ .safe := by decide

/-- KILL high, and KILL low with the reset it would be with KILL high. -/
theorem witness_SoftResetKeepsTheSettings :
    (one .run .reachable).sup.kill = true ∧ (SupervisorPort.reset 0 false).kill = false
      ∧ (∃ u, exec (.softReset []) (one .run .reachable) = .next u)
      ∧ (line (one .run .reachable) (.latch .zero 1) true 0).link.line =
          .message ⟨.latch .zero 1, true, 0, true⟩
      ∧ (∀ m, (one .run .reachable).link.line ≠ .message m)
      ∧ Instr.pictureReadStatus true ∈ [Instr.writeDemand 0 true, .pictureReadStatus true] :=
  ⟨by decide, by decide, ⟨_, rfl⟩, by decide, nofun, by decide⟩

theorem witness_PortCommandsDecodeFromTheirBytes :
    (Instr.pictureUnknownCommand 0xFF).wellFormed = true ∧ (Instr.setGrid [64, 40]).wellFormed = true := by decide

/-! ### Witnesses of the invariants -/

/-- A RUN state with a SOLVED map of one driver, its LEVEL queued as the round's first, and a record in the queue. -/
def shipping : State :=
  let s := one .run .reachable
  { s with
    pending := [.transmitChoice]
    solver := { s.solver with snapshot := s.drivers.snapshot }
    banks :=
      { s.banks with
        pendingBank :=
          { (s.banks.pendingBank.putZone 0 ⟨100, 100, 0, 25, false, false, false, false⟩) with
            domains := s.banks.pendingBank.domains.set 0 ⟨4096, 4096, 100, 10483200⟩, tag := ⟨false, 1⟩ }
        pend := .solved }
    timing := { s.timing with lossTimer := some 0 }
    drivers := { s.drivers with round := some [0] }
    link := { s.link with resetGap := false, queue := [.blank, .level 0 5 ⟨false, 1⟩ [25, 0, 0, 0], .poll] }
    events := ⟨[⟨.signalLoss, none, none, none, 255, .zero⟩], false⟩ }

/-- The state steps. -/
theorem shipping_steps : ∃ t, step shipping = .next t := ⟨_, rfl⟩

/-- BudgetInv of this state is in witness_EveryStepKeepsTheBudget. -/
theorem witness_EveryStepKeepsTheRanges :
    RangeInv shipping ∧ SettingsInv shipping ∧ DriverInv shipping ∧ GridInv shipping ∧ ThermalInv shipping
      ∧ DomainInv shipping := by
  refine ⟨⟨⟨?_, ?_⟩, ⟨?_, ?_⟩, ?_, ?_, ?_⟩, ?_, one_driverInv .run .reachable, by unfold GridInv; decide, ?_,
    by unfold DomainInv; decide⟩
  · intro z
    have h : shipping.banks.active.zone z = .reset := rfl
    rw [h]
    exact ⟨by decide, by decide, by decide, by decide⟩
  · decide
  · intro z
    have h : shipping.banks.pendingBank.zone z =
        if z = 0 then ⟨100, 100, 0, 25, false, false, false, false⟩ else .reset := Bank.zone_putZone _ 0 z _
    rw [h]
    split <;> exact ⟨by decide, by decide, by decide, by decide⟩
  · decide
  · decide
  · decide
  · decide
  · unfold SettingsInv
    decide
  · intro i
    have h : shipping.thermal.get .reset i = .reset := rfl
    rw [h]
    decide

theorem witness_EveryStepKeepsTheSolveInStep :
    DemandStoreInv shipping ∧ PendingInv shipping ∧ TagInv shipping ∧ GateInv shipping := by
  refine ⟨?_, ?_, ?_, ?_⟩
  · unfold DemandStoreInv
    decide
  · unfold PendingInv
    decide
  · unfold TagInv
    decide
  · unfold GateInv
    decide

theorem witness_EveryStepKeepsTheOperatingState :
    OperatingInv shipping ∧ TimingInv shipping ∧ PollInv shipping ∧ OutsideRunInv shipping := by
  refine ⟨?_, ⟨by decide, by decide, ?_⟩, ?_, ?_⟩
  · unfold OperatingInv
    decide
  · intro _ _
    exact .inl (by decide)
  · unfold PollInv
    decide
  · unfold OutsideRunInv
    decide

theorem witness_EveryStepKeepsTheLinkInOrder :
    QueueInv shipping ∧ ShippingInv shipping ∧ StopPulseInv shipping := by
  refine ⟨?_, ⟨by decide, ?_, by decide, nofun⟩, fun _ => rfl⟩
  · unfold QueueInv
    decide
  · intro i addr tag codes h
    have live : shipping.link.liveLevels = [.level 0 5 ⟨false, 1⟩ [25, 0, 0, 0]] := by decide
    rw [live, List.mem_singleton] at h
    injection h with h1 h2 h3 h4
    exact ⟨by decide, by rw [h3]; rfl, [], by rw [h1]; rfl⟩

theorem witness_EveryStepKeepsTheBudget : BudgetInv shipping ∧ PendingInv shipping ∧ OutsideRunInv shipping := by
  refine ⟨?_, ?_, ?_⟩
  · unfold BudgetInv
    decide
  · unfold PendingInv
    decide
  · unfold OutsideRunInv
    decide

theorem witness_EveryStepKeepsTheEventQueueAndTheTables : EventInv shipping ∧ TablesInv shipping := by
  refine ⟨?_, ?_⟩
  · unfold EventInv
    decide
  · unfold TablesInv Store.wf
    decide

theorem witness_ReadStatusClearsItsOwnFlags :
    (⟨true, true, false, [], true, [], true, 0, .quiet, none⟩ : Moment).rstn = true
      ∧ (⟨false, true, false, [], true, [], true, 0, .quiet, none⟩ : Moment).rstn = false := ⟨rfl, rfl⟩

end Sys2Proof.Tests
end

/-! ## Which parts of the state a command owns -/

namespace Sys2Proof.Machine
open Sys2Proof

/-- The parts of the state that the statements about owners and ranges speak of. -/
inductive Part where
  | grid | demand | gains | locks | liveSet | store | solver | active | pendingBank | pend | gate | entries
  | linkSettings | thermal | events | pictureFlags | supFlags | budgets | slew | derate | scan | loss | straps
  deriving DecidableEq

/-- What a part holds. -/
abbrev Part.Value : Part → Type
  | .grid => Nat × Nat
  | .demand => Store Demand
  | .gains => Store Gain × Store Gain
  | .locks => Store (Option ZoneRange)
  | .liveSet => GainSet
  | .store => Bool
  | .solver => Solver
  | .active | .pendingBank => Bank
  | .pend => PendState
  | .gate => Bool × Option Schedule
  | .entries => Store (Option DriverEntry)
  | .linkSettings => LinkRate × LinkMode × Nat
  | .thermal => Store ThermalRecord
  | .events => EventQueue
  | .pictureFlags | .supFlags => PortFlags
  | .budgets => PerDomain BudgetSetting
  | .slew => Nat × Nat
  | .derate => DerateSetting
  | .scan => ScanSetting
  | .loss => LossSetting
  | .straps => BitVec 2

/-- What a part holds in a state. -/
def State.part (s : State) : (p : Part) → p.Value
  | .grid => (s.zone.cols, s.zone.rows)
  | .demand => s.zone.demand
  | .gains => (s.zone.gainA, s.zone.gainB)
  | .locks => s.zone.locks
  | .liveSet => s.zone.liveSet
  | .store => s.zone.storeOpen
  | .solver => s.solver
  | .active => s.banks.active
  | .pendingBank => s.banks.pendingBank
  | .pend => s.banks.pend
  | .gate => (s.timing.gateOpen, s.timing.schedule)
  | .entries => s.drivers.entries
  | .linkSettings => (s.link.rate, s.link.mode, s.link.pollInterval)
  | .thermal => s.thermal
  | .events => s.events
  | .pictureFlags => s.picture.flags
  | .supFlags => s.sup.flags
  | .budgets => s.sup.budgets
  | .slew => (s.sup.rise, s.sup.fall)
  | .derate => s.sup.derate
  | .scan => s.sup.scan
  | .loss => s.sup.loss
  | .straps => s.sup.straps

/-- The parts that a command owns: those that it may change. -/
def owned : Instr → List Part
  | .writeDemand _ _ => [.pictureFlags, .supFlags]
  | .demandValue _ => [.demand]
  | .pictureGainValue _ => [.gains, .pictureFlags, .supFlags]
  | .closeFrame _ _ => [.store, .solver, .pendingBank, .pend, .entries, .pictureFlags, .supFlags]
  | .pictureReadStatus _ => [.pictureFlags]
  | .setGrid _ => [.grid, .demand, .gains, .entries]
  | .loadDriver _ => [.entries, .thermal]
  | .setBudget _ => [.budgets]
  | .setSlew _ => [.slew]
  | .setDerate _ => [.derate]
  | .setScan _ => [.scan]
  | .setLink _ => [.linkSettings]
  | .setLoss _ =>
    [.loss, .solver, .active, .pendingBank, .pend, .gate, .entries, .events, .pictureFlags, .supFlags]
  | .supervisorWriteGain _ => [.gains]
  | .selectGainSet _ => [.liveSet]
  | .lockRange _ => [.locks]
  | .start _ | .rearm _ => [.active, .gate, .entries, .events]
  | .stop _ => [.solver, .pend, .gate, .entries]
  | .softReset _ =>
    [.store, .solver, .active, .pendingBank, .pend, .gate, .entries, .thermal, .events, .pictureFlags, .supFlags]
  | .ackAlert _ => [.thermal]
  | .supervisorReadStatus _ => [.events, .supFlags]
  | .popEvent _ => [.events]
  | .fsyncFallingEdge _ _ _ => [.active, .pendingBank, .pend, .gate, .entries, .events, .pictureFlags, .supFlags]
  | .killFallingEdge _ => [.solver, .pend, .gate, .entries, .events]
  | .powerOnReset _ _ _ _ =>
    [.grid, .demand, .gains, .locks, .liveSet, .store, .solver, .active, .pendingBank, .pend, .gate, .entries,
      .linkSettings, .thermal, .events, .pictureFlags, .supFlags, .budgets, .slew, .derate, .scan, .loss, .straps]
  | .lossTimerExpiry | .internalFrameStart =>
    [.solver, .active, .pendingBank, .pend, .gate, .entries, .events, .pictureFlags, .supFlags]
  | .latchDue => [.gate]
  | .pass1Zone => [.store, .solver, .pendingBank]
  | .factorStep => [.solver]
  | .pass2Zone => [.solver, .pendingBank, .pend, .entries]
  | .levelEnding _ _ => [.pend, .entries]
  | .latchEnding _ _ => [.pend, .gate, .entries]
  | .discoveryConfigEnding _ _ => [.active, .gate, .entries, .events]
  | .probeConfigEnding _ _ => [.entries, .events]
  | .readEnding _ _ _ => [.active, .gate, .thermal, .events]
  | _ => []

/-- A command owns a part. -/
def owns (c : Instr) (p : Part) : Bool := (owned c).contains p

/-! ### What the existing laws leave open of the shared operations -/

@[simp] theorem State.startSolve_active (s : State) (kind : SolveKind) (params : SolveParams) (epoch : Bool) :
    (s.startSolve kind params epoch).banks.active = s.banks.active := rfl

@[simp] theorem State.pass2Step_active (s : State) : s.pass2Step.banks.active = s.banks.active := rfl

/-- A loss solve leaves the demand store's state (R7, R27). -/
@[simp] theorem State.lossSolve_storeOpen (s : State) : s.lossSolve.zone.storeOpen = s.zone.storeOpen := by
  rcases s.lossSolve_cases with h | ⟨_, _, h⟩
  · rw [h]
  · rw [h]
    split <;> simp

@[simp] theorem State.internalStart_storeOpen (s : State) (next : Nat) :
    (s.internalStart next).zone.storeOpen = s.zone.storeOpen := by simp [State.internalStart]

@[simp] theorem State.lossExpiry_storeOpen (s : State) : s.lossExpiry.zone.storeOpen = s.zone.storeOpen := by
  simp [State.lossExpiry]

/-- A SOFT RESET leaves the grid, the demands, the gains, the locks and every setting (R183). -/
@[simp] theorem State.softReset_keeps (s : State) :
    s.softReset.zone.cols = s.zone.cols ∧ s.softReset.zone.rows = s.zone.rows
      ∧ s.softReset.zone.demand = s.zone.demand ∧ s.softReset.zone.gainA = s.zone.gainA
      ∧ s.softReset.zone.gainB = s.zone.gainB ∧ s.softReset.zone.locks = s.zone.locks
      ∧ s.softReset.zone.liveSet = s.zone.liveSet ∧ s.softReset.link.rate = s.link.rate
      ∧ s.softReset.link.mode = s.link.mode ∧ s.softReset.link.pollInterval = s.link.pollInterval
      ∧ s.softReset.sup.budgets = s.sup.budgets ∧ s.softReset.sup.rise = s.sup.rise
      ∧ s.softReset.sup.fall = s.sup.fall ∧ s.softReset.sup.derate = s.sup.derate
      ∧ s.softReset.sup.scan = s.sup.scan ∧ s.softReset.sup.loss = s.sup.loss
      ∧ s.softReset.sup.straps = s.sup.straps := by
  and_intros <;> rfl

/-- A POLL asked for leaves the link settings (R135). -/
@[simp] theorem Link.sendPoll_settings (l : Link) :
    l.sendPoll.rate = l.rate ∧ l.sendPoll.mode = l.mode ∧ l.sendPoll.pollInterval = l.pollInterval := by
  unfold Link.sendPoll
  split <;> simp

/-! ### A command leaves every part that it does not own -/

/-- A command leaves every part that it does not own. -/
theorem exec_keeps {c : Instr} {s t : State} {p : Part} (h : exec c s = .next t) (hp : owns c p = false) :
    t.part p = s.part p := by
  cases c with
  | supervisorWriteGain | start | stop | softReset | killFallingEdge | fsyncFallingEdge | lossTimerExpiry
  | internalFrameStart | closeFrame | pass2Zone | holdRise | holdFall | pollTimerExpiry | transmitChoice
  | arbitrationEnd | levelEnding | discoveryConfigEnding | readEnding | pollEnding =>
    -- The branches go through shared operations, whose laws say what they leave.
    cases h
    (repeat' split) <;> cases p <;> cases hp <;> simp [State.part]
  | pictureGainValue | setLoss | ackAlert | rearm | latchEnding | blankEnding =>
    cases h
    dsimp only
    (repeat' split) <;> cases p <;> cases hp <;> simp [State.part]
  | _ =>
    -- The branches write out the fields that they change.
    cases h
    (repeat' split) <;> cases p <;> cases hp <;> rfl

end Sys2Proof.Machine

/-! ## What a command can do -/

namespace Sys2Proof.Machine

open Sys2Proof

/-! ### Commands of the zone store -/

/-- A LOCK RANGE is refused, or fills an empty slot (R16). -/
theorem exec_lockRange_cases {params : List Byte} {s t : State} (h : exec (.lockRange params) s = .next t) :
    (∃ r, t = s.result r)
      ∨ ∃ slot range, s.zone.lockAt slot = none
          ∧ t = State.result .ok { s with zone := { s.zone with locks := s.zone.locks.set none slot (some range) } } := by
  cases h
  split
  · split
    · split
      · exact .inl ⟨_, rfl⟩
      · next hnone =>
        split
        · exact .inr ⟨_, _, by simpa using hnone, rfl⟩
        · exact .inl ⟨_, rfl⟩
    · exact .inl ⟨_, rfl⟩
  · exact .inl ⟨_, rfl⟩

/-- A taken SET GRID finds no slot that holds a range (R2). -/
theorem exec_setGrid_cases {params : List Byte} {s t : State} (h : exec (.setGrid params) s = .next t) :
    (∃ r, t = s.result r)
      ∨ ∃ c r : Byte, (1 ≤ c.toNat ∧ c.toNat ≤ 64 ∧ 1 ≤ r.toNat ∧ r.toNat ≤ 40) ∧ s.zone.anyLock = false
          ∧ t = State.result .ok
              { s with
                zone := s.zone.regrid c.toNat r.toNat
                drivers := { s.drivers with entries := ⟨[]⟩ }
                link := s.link.entryGone fun _ => true
                picture := { s.picture with frame := s.picture.frame.afterRegrid } } := by
  cases h
  split
  · split
    · split
      · next hr =>
        split
        · exact .inl ⟨_, rfl⟩
        · next hl => exact .inr ⟨_, _, hr, by simpa using hl, rfl⟩
      · exact .inl ⟨_, rfl⟩
    · exact .inl ⟨_, rfl⟩
  · exact .inl ⟨_, rfl⟩

/-- A gain of no taken picture WRITE GAIN changes nothing; one in a locked range is dropped; any other is written at
its position (R12, R164). -/
theorem exec_pictureGainValue_cases {w : BitVec 16} {s t : State} (h : exec (.pictureGainValue w) s = .next t) :
    t = s
      ∨ ∃ g o p, s.picture.frame = .writeGain g o p
          ∧ (s.zone.locked (zoneAt o s.zone.cols s.zone.rows p) = true
              ∧ t = (s.frame (.writeGain g o ((p + 1) % s.zone.n))).raise .gainLocked
            ∨ s.zone.locked (zoneAt o s.zone.cols s.zone.rows p) = false
              ∧ t = { s.frame (.writeGain g o ((p + 1) % s.zone.n)) with
                  zone := s.zone.putGain g (zoneAt o s.zone.cols s.zone.rows p) (gainOf w) }) := by
  cases h
  split
  · next hf =>
    dsimp only
    split
    · next hl => exact .inr ⟨_, _, _, hf, .inl ⟨hl, rfl⟩⟩
    · next hl => exact .inr ⟨_, _, _, hf, .inr ⟨by simpa using hl, rfl⟩⟩
  · exact .inl rfl

/-- A supervisor WRITE GAIN is refused, or none of the zones that it visits is locked and all its gains are written
(R13). -/
theorem exec_supervisorWriteGain_cases {params : List Byte} {s t : State}
    (h : exec (.supervisorWriteGain params) s = .next t) :
    (∃ r, t = s.result r)
      ∨ ∃ (g : GainSet) (zones : List Nat) (gains : List Gain), (∀ z ∈ zones, s.zone.locked z = false)
          ∧ t = State.result .ok { s with zone := s.zone.putGains g (zones.zip gains) } := by
  cases h
  split
  · split
    · exact .inl ⟨_, rfl⟩
    · next hl => exact .inr ⟨_, _, _, by simpa using hl, rfl⟩
  · exact .inl ⟨_, rfl⟩

/-! ### CLOSE FRAME and the frame starts -/

/-- A CLOSE FRAME is dropped, refused, or starts a picture solve (R22, R160). -/
theorem exec_closeFrame_cases {record : List Byte} {cut : Bool} {s t : State}
    (h : exec (.closeFrame record cut) s = .next t) :
    (cut = true ∧ t = s.frame .nothing)
      ∨ (cut = false ∧ t = (s.raise .closeRefused).frame .nothing)
      ∨ cut = false ∧ s.sup.op = .run ∧ s.zone.storeOpen = true ∧ ∃ r, closeRecordOf record = some r
          ∧ t = (s.replaceWork.startSolve .picture (s.pictureParams r) r.epoch).frame .nothing := by
  cases h
  by_cases hc : cut = true
  · exact .inl ⟨hc, by rw [if_pos hc]⟩
  · rw [if_neg hc]
    have hc : cut = false := by simpa using hc
    split
    · next r hr =>
      split
      · next hrun => exact .inr (.inr ⟨hc, hrun.1, hrun.2, r, hr, rfl⟩)
      · exact .inr (.inl ⟨hc, rfl⟩)
    · exact .inr (.inl ⟨hc, rfl⟩)

/-- The commands in which the device starts a frame of its own (R80, R82, R83). -/
def StartsOwnFrame (c : Instr) : Prop := c = .lossTimerExpiry ∨ c = .internalFrameStart ∨ ∃ p, c = .setLoss p

/-- No record is lost from the queue, the flag is not cleared, and it is set with the queue full alone (R154, R155). -/
structure EventQueue.Grows (q r : EventQueue) : Prop where
  length : q.records.length ≤ r.records.length
  overflow : q.overflow = true → r.overflow = true
  full : q.overflow = false → r.overflow = true → 32 ≤ r.records.length

theorem EventQueue.Grows.refl (q : EventQueue) : q.Grows q := ⟨le_rfl, id, fun h h' => by simp [h] at h'⟩

theorem EventQueue.Grows.trans {q r u : EventQueue} (h : q.Grows r) (h' : r.Grows u) : q.Grows u where
  length := h.length.trans h'.length
  overflow := h'.overflow ∘ h.overflow
  full hq hu := by
    cases hr : r.overflow with
    | false => exact h'.full hr hu
    | true => exact (h.full hq hr).trans h'.length

theorem EventQueue.grows_post (q : EventQueue) (t : Tag) (k : EventKind) (driver zone : Option Nat)
    (value : Option Int) : q.Grows (q.post t k driver zone value) := by
  unfold EventQueue.post
  split
  · exact ⟨by simp, id, fun h h' => by simp [h] at h'⟩
  · split
    · exact ⟨by simp, id, fun h h' => by simp [h] at h'⟩
    · next hlen => exact ⟨le_rfl, fun _ => rfl, fun _ _ => by simpa [Config.eventCapacity] using hlen⟩

theorem EventQueue.grows_postAll (q : EventQueue) (t : Tag) (posts : List Post) :
    q.Grows (EventQueue.postAll t q posts) := by
  induction posts generalizing q with
  | nil => exact .refl q
  | cons p rest ih => exact (q.grows_post t _ _ _ _).trans (ih _)

/-- Such a command leaves all but the loss settings, or is an internal frame start of a device that differs in them
and in its timers and posts alone. -/
theorem exec_ownFrame_cases {c : Instr} (hc : StartsOwnFrame c) {s t : State} (h : exec c s = .next t) :
    (∀ p, p ≠ .loss → t.part p = s.part p)
      ∨ ∃ (u : State) (next : Nat), t = u.internalStart next ∧ s.events.Grows u.events
          ∧ ∀ p, p ≠ .loss → p ≠ .events → u.part p = s.part p := by
  rcases hc with rfl | rfl | ⟨params, rfl⟩ <;> cases h
  · split
    · refine .inr ⟨_, _, rfl, EventQueue.grows_post _ _ _ _ _ _, fun p _ he => ?_⟩
      cases p with
      | events => exact absurd rfl he
      | _ => rfl
    · exact .inl fun _ _ => rfl
  · split
    · exact .inr ⟨_, _, rfl, .refl _, fun p _ _ => by cases p <;> rfl⟩
    · exact .inl fun _ _ => rfl
  · have stored (g : LossSetting) (p : Part) (hl : p ≠ .loss) :
        (State.result .ok { s with sup := { s.sup with loss := g } }).part p = s.part p := by
      cases p with
      | loss => exact absurd rfl hl
      | _ => rfl
    split
    · dsimp only
      split
      · split
        · refine .inr ⟨_, _, rfl, EventQueue.grows_post _ _ _ _ _ _, fun p hl he => ?_⟩
          cases p with
          | events => exact absurd rfl he
          | loss => exact absurd rfl hl
          | _ => rfl
        · exact .inl (stored _)
      · exact .inl (stored _)
    · exact .inl fun p _ => by cases p <;> rfl

/-- An FSYNC edge changes timers and posts alone, is a runt, or is a frame start of a device that differs in its timers
and posts alone (R65, R66, R84). -/
theorem exec_fsync_cases {time held high : Nat} {s t : State}
    (h : exec (.fsyncFallingEdge time held high) s = .next t) :
    ∃ u : State, (t = u ∨ t = u.raise .runtFs ∨ t = u.frameStart) ∧ s.events.Grows u.events
      ∧ ∀ p, p ≠ .events → u.part p = s.part p := by
  have edge (v : State) (hv : ∀ p, v.part p = s.part p) :
      ∃ u : State, (v.fsyncEdge = u ∨ v.fsyncEdge = u.raise .runtFs ∨ v.fsyncEdge = u.frameStart)
        ∧ v.events.Grows u.events ∧ ∀ p, p ≠ .events → u.part p = s.part p := by
    unfold State.fsyncEdge
    split
    · split
      · split
        · exact ⟨v, .inr (.inl rfl), .refl _, fun p _ => hv p⟩
        · exact ⟨_, .inr (.inr rfl), .refl _, fun p _ => .trans (by cases p <;> rfl) (hv p)⟩
      · refine ⟨_, .inr (.inr rfl), EventQueue.grows_post _ _ _ _ _ _, fun p he => .trans ?_ (hv p)⟩
        cases p with
        | events => exact absurd rfl he
        | _ => rfl
    · exact ⟨v, .inl rfl, .refl _, fun p _ => hv p⟩
  cases h
  split
  · split
    · exact edge _ fun p => by cases p <;> rfl
    · exact ⟨s, .inl rfl, .refl _, fun _ _ => rfl⟩
  · exact ⟨_, .inl rfl, .refl _, fun p _ => by cases p <;> rfl⟩

end Sys2Proof.Machine

/-! ## Locks (O8) -/

namespace Sys2Proof.Machine

open Sys2Proof

/-- A zone is locked while it lies within the range of at least one slot (R15). -/
theorem ZoneStore.locked_iff (v : ZoneStore) (z : Nat) :
    v.locked z = true ↔ ∃ slot range, slot < 8 ∧ v.lockAt slot = some range ∧ range.first ≤ z ∧ z ≤ range.last := by
  simp only [ZoneStore.locked, List.any_eq_true, List.mem_range]
  constructor
  · rintro ⟨slot, hslot, h⟩
    cases hr : v.lockAt slot with
    | none => simp [hr] at h
    | some range => exact ⟨slot, range, hslot, hr, by simpa [hr] using h⟩
  · rintro ⟨slot, range, hslot, hr, hz⟩
    exact ⟨slot, hslot, by simpa [hr] using hz⟩

/-- No zone is locked exactly where every slot's range leaves it out (R15). -/
theorem ZoneStore.locked_eq_false_iff (v : ZoneStore) (z : Nat) :
    v.locked z = false ↔
      ∀ slot range, slot < 8 → v.lockAt slot = some range → ¬(range.first ≤ z ∧ z ≤ range.last) := by
  rw [← Bool.not_eq_true, v.locked_iff]
  simp only [not_exists, not_and]

/-- Some slot holds a range (R2). -/
theorem ZoneStore.anyLock_iff (v : ZoneStore) : v.anyLock = true ↔ ∃ slot, slot < 8 ∧ v.lockAt slot ≠ none := by
  simp [ZoneStore.anyLock, Option.isSome_iff_ne_none]

/-- Where a zone is locked, some slot holds a range. -/
theorem ZoneStore.anyLock_of_locked {v : ZoneStore} {z : Nat} (h : v.locked z = true) : v.anyLock = true := by
  obtain ⟨slot, range, hslot, hr, _⟩ := (v.locked_iff z).mp h
  exact v.anyLock_iff.mpr ⟨slot, hslot, by simp [hr]⟩

/-- More locks lock more zones. -/
theorem ZoneStore.locked_mono {v w : ZoneStore} {z : Nat}
    (hl : ∀ slot range, slot < 8 → v.lockAt slot = some range → w.lockAt slot = some range)
    (h : v.locked z = true) : w.locked z = true := by
  obtain ⟨slot, range, hslot, hr, hz⟩ := (v.locked_iff z).mp h
  exact (w.locked_iff z).mpr ⟨slot, range, hslot, hl slot range hslot hr, hz⟩

/-- The gains that a Zone Store holds are those of its two gain tables. -/
theorem ZoneStore.gainAt_congr {v w : ZoneStore} (h : (w.gainA, w.gainB) = (v.gainA, v.gainB)) (g : GainSet) (z : Nat) :
    w.gainAt g z = v.gainAt g z := by
  obtain ⟨ha, hb⟩ := Prod.mk.inj h
  cases g <;> simp [ZoneStore.gainAt, ha, hb]

/-- A slot that holds a range keeps it over every command but power-on reset (R15). -/
theorem exec_keeps_lockAt {c : Instr} {s t : State} (h : exec c s = .next t)
    (hc : ∀ a b k f, c ≠ .powerOnReset a b k f) {slot : Nat} {range : ZoneRange}
    (hr : s.zone.lockAt slot = some range) : t.zone.lockAt slot = some range := by
  have kept (hp : owns c .locks = false) : t.zone.lockAt slot = some range := by
    rw [ZoneStore.lockAt, show t.zone.locks = s.zone.locks from exec_keeps (p := .locks) h hp]
    exact hr
  cases c with
  | lockRange params =>
    rcases exec_lockRange_cases h with ⟨_, rfl⟩ | ⟨k, _, hk, rfl⟩
    · exact hr
    · have hne : slot ≠ k := by
        rintro rfl
        simp [hk] at hr
      simpa [ZoneStore.lockAt, hne] using hr
  | powerOnReset a b k f => exact absurd rfl (hc a b k f)
  | _ => exact kept rfl

/-- No gain of a locked zone changes over a command but power-on reset (R15). -/
theorem exec_keeps_gainAt_locked {c : Instr} {s t : State} (h : exec c s = .next t)
    (hc : ∀ a b k f, c ≠ .powerOnReset a b k f) {z : Nat} (hz : s.zone.locked z = true) (g : GainSet) :
    t.zone.gainAt g z = s.zone.gainAt g z := by
  have kept (hp : owns c .gains = false) : t.zone.gainAt g z = s.zone.gainAt g z :=
    ZoneStore.gainAt_congr (exec_keeps (p := .gains) h hp) g z
  cases c with
  | pictureGainValue w =>
    rcases exec_pictureGainValue_cases h with rfl | ⟨set, o, p, _, ⟨_, rfl⟩ | ⟨hl, rfl⟩⟩
    · rfl
    · rfl
    · have hne : z ≠ zoneAt o s.zone.cols s.zone.rows p := by
        rintro rfl
        simp [hl] at hz
      simp [hne]
  | supervisorWriteGain params =>
    rcases exec_supervisorWriteGain_cases h with ⟨_, rfl⟩ | ⟨set, zones, gains, hl, rfl⟩
    · rfl
    · refine ZoneStore.gainAt_putGains_other _ _ _ _ _ (.inr ?_)
      rintro ⟨y, v⟩ hy rfl
      simp [hl y (List.of_mem_zip hy).1] at hz
  | setGrid params =>
    rcases exec_setGrid_cases h with ⟨_, rfl⟩ | ⟨_, _, _, hl, rfl⟩
    · rfl
    · simp [ZoneStore.anyLock_of_locked hz] at hl
  | powerOnReset a b k f => exact absurd rfl (hc a b k f)
  | _ => exact kept rfl

/-- Settles O8: only LOCK RANGE writes a slot, and only an empty one; the gain writes leave locked zones out, and a
SET GRID is refused while a slot holds a range. -/
theorem locksHoldUntilPowerOnReset : Obligations.LocksHoldUntilPowerOnReset := by
  unfold Obligations.LocksHoldUntilPowerOnReset
  intro c s t h hc
  exact ⟨fun _ _ _ hr => exec_keeps_lockAt h hc hr, fun g _ hz =>
    ⟨ZoneStore.locked_mono (fun _ _ _ hr => exec_keeps_lockAt h hc hr) hz, exec_keeps_gainAt_locked h hc hz g⟩⟩

end Sys2Proof.Machine

/-! ## Port flags, EVENT-OVERFLOW and the ACTIVE tag (O49) -/

namespace Sys2Proof.Machine

open Sys2Proof

/-! ### Port flags -/

/-- A flag of a copy. -/
def PortFlags.has (p : PortFlags) : PortFlag → Bool
  | .lateWrite => p.lateWrite
  | .closeRefused => p.closeRefused
  | .superseded => p.superseded
  | .lateCommit => p.lateCommit
  | .runtFs => p.runtFs
  | .flushed => p.flushed
  | .gainLocked => p.gainLocked

/-- A flag is set exactly where setting it again changes nothing. -/
theorem PortFlags.set_eq_self_iff (p : PortFlags) (f : PortFlag) : p.set f = p ↔ p.has f = true := by
  obtain ⟨_, _, _, _, _, _, _⟩ := p
  cases f <;> simp [PortFlags.set, PortFlags.has, eq_comm]

@[simp] theorem PortFlags.has_none (f : PortFlag) : PortFlags.none.has f = false := by cases f <;> rfl

@[simp] theorem PortFlags.has_setIf (p : PortFlags) (c : Bool) (f g : PortFlag) :
    (p.setIf c f).has g = (p.has g || (c && decide (g = f))) := by
  cases c
  · simp [PortFlags.setIf]
  · cases f <;> cases g <;> simp [PortFlags.setIf, PortFlags.set, PortFlags.has]

/-- From `s` to `t` the flags of one set are raised in both copies, all of them in `fs`, and none is cleared
(R169). -/
def Raises (fs : PortFlag → Prop) (s t : State) : Prop :=
  ∃ raised : PortFlag → Bool, (∀ f, raised f = true → fs f)
    ∧ (∀ f, t.picture.flags.has f = (s.picture.flags.has f || raised f))
    ∧ ∀ f, t.sup.flags.has f = (s.sup.flags.has f || raised f)

/-- Nothing is raised where both copies stay. -/
theorem Raises.of_same {fs : PortFlag → Prop} {s t : State} (hp : t.picture.flags = s.picture.flags)
    (hs : t.sup.flags = s.sup.flags) : Raises fs s t :=
  ⟨fun _ => false, by simp, by simp [hp], by simp [hs]⟩

theorem Raises.trans {fs : PortFlag → Prop} {s t u : State} (h : Raises fs s t) (h' : Raises fs t u) : Raises fs s u := by
  obtain ⟨a, ha, hap, has⟩ := h
  obtain ⟨b, hb, hbp, hbs⟩ := h'
  refine ⟨fun f => a f || b f, fun f hf => ?_, fun f => ?_, fun f => ?_⟩
  · rcases Bool.or_eq_true_iff.mp hf with hf | hf
    · exact ha f hf
    · exact hb f hf
  · rw [hbp, hap, Bool.or_assoc]
  · rw [hbs, has, Bool.or_assoc]

/-- A state that differs elsewhere alone raises the same flags. -/
theorem Raises.congr {fs : PortFlag → Prop} {s t u : State} (h : Raises fs s t)
    (hp : u.picture.flags = t.picture.flags) (hs : u.sup.flags = t.sup.flags) : Raises fs s u :=
  h.trans (.of_same hp hs)

/-- Nor does it matter where the state before differs elsewhere alone. -/
theorem Raises.congr_left {fs : PortFlag → Prop} {r s t : State} (h : Raises fs s t)
    (hp : s.picture.flags = r.picture.flags) (hs : s.sup.flags = r.sup.flags) : Raises fs r t :=
  (Raises.of_same hp hs).trans h

theorem raises_raiseIf {fs : PortFlag → Prop} {f : PortFlag} (hf : fs f) (c : Bool) (s : State) :
    Raises fs s (s.raiseIf c f) :=
  ⟨fun g => c && decide (g = f), fun g hg => by simp_all, by simp, by simp⟩

theorem raises_raise {fs : PortFlag → Prop} {f : PortFlag} (hf : fs f) (s : State) : Raises fs s (s.raise f) :=
  raises_raiseIf hf true s

/-- The flush raises FLUSHED at most (R95). -/
theorem raises_flush {fs : PortFlag → Prop} (hf : fs .flushed) (s : State) : Raises fs s s.flush := by
  unfold State.flush
  split
  · split
    · exact (raises_raise hf s).congr rfl rfl
    · exact .of_same rfl rfl
  · exact .of_same rfl rfl

/-- A frame start raises FLUSHED and LATE-COMMIT at most (R79, R95). -/
theorem raises_frameStart {fs : PortFlag → Prop} (hf : fs .flushed) (hl : fs .lateCommit) (s : State) :
    Raises fs s s.frameStart := by
  unfold State.frameStart
  split
  · exact (raises_flush hf s).congr rfl rfl
  · exact (raises_flush hf s).trans (raises_raise hl _)

/-- A loss solve raises SUPERSEDED at most (R45). -/
theorem raises_lossSolve {fs : PortFlag → Prop} (hf : fs .superseded) (s : State) : Raises fs s s.lossSolve := by
  rcases s.lossSolve_cases with h | ⟨_, _, h⟩
  · rw [h]
    exact .of_same rfl rfl
  · rw [h]
    split
    · exact (raises_raise hf s).congr rfl rfl
    · exact .of_same rfl rfl

/-- An internal frame start raises what the frame start and its loss solve raise (R45, R79, R95). -/
theorem raises_internalStart {fs : PortFlag → Prop} (hs : fs .superseded) (hf : fs .flushed) (hl : fs .lateCommit)
    (s : State) (next : Nat) : Raises fs s (s.internalStart next) := by
  unfold State.internalStart
  refine Raises.trans ?_ (raises_lossSolve hs _)
  exact (raises_frameStart hf hl _).congr_left rfl rfl

/-- What a taken CLOSE FRAME ends raises SUPERSEDED at most (R43, R44). -/
theorem raises_replaceWork {fs : PortFlag → Prop} (hf : fs .superseded) (s : State) : Raises fs s s.replaceWork := by
  unfold State.replaceWork
  split
  · split
    · exact (raises_raise hf s).congr rfl rfl
    · exact .of_same rfl rfl
  · exact raises_raiseIf hf _ s

/-- The commands that set a flag (R169). -/
def SetsFlag (c : Instr) : PortFlag → Prop
  | .lateWrite => ∃ p, c = .writeDemand p false
  | .closeRefused => ∃ record, c = .closeFrame record false
  | .superseded => (∃ record, c = .closeFrame record false) ∨ StartsOwnFrame c
  | .lateCommit | .flushed => (∃ time held high, c = .fsyncFallingEdge time held high) ∨ StartsOwnFrame c
  | .runtFs => ∃ time held high, c = .fsyncFallingEdge time held high
  | .gainLocked => ∃ w, c = .pictureGainValue w

/-- A command that is no READ STATUS and no reset clears no flag, and sets those it may in both copies (R169). -/
theorem exec_raises {c : Instr} {s t : State} (h : exec c s = .next t) (hp : c ≠ .pictureReadStatus false)
    (hs : ∀ p, c ≠ .supervisorReadStatus p) (hr : ∀ p, c ≠ .softReset p) (ho : ∀ a b k f, c ≠ .powerOnReset a b k f) :
    Raises (SetsFlag c) s t := by
  have kept (hp : owns c .pictureFlags = false) (hs : owns c .supFlags = false) : Raises (SetsFlag c) s t :=
    .of_same (exec_keeps (p := .pictureFlags) h hp) (exec_keeps (p := .supFlags) h hs)
  have ownFrame (hc : StartsOwnFrame c) : Raises (SetsFlag c) s t := by
    rcases exec_ownFrame_cases hc h with ht | ⟨u, next, rfl, _, hu⟩
    · exact .of_same (ht .pictureFlags nofun) (ht .supFlags nofun)
    · exact (raises_internalStart (.inr hc) (.inr hc) (.inr hc) u next).congr_left (hu .pictureFlags nofun nofun)
        (hu .supFlags nofun nofun)
  cases c with
  | writeDemand position cut =>
    cases h
    cases cut
    · rw [if_neg Bool.false_ne_true]
      split
      · split <;> exact .of_same rfl rfl
      · exact (raises_raise ⟨_, rfl⟩ s).congr rfl rfl
    · exact .of_same rfl rfl
  | closeFrame record cut =>
    rcases exec_closeFrame_cases h with ⟨_, rfl⟩ | ⟨rfl, rfl⟩ | ⟨rfl, _, _, r, _, rfl⟩
    · exact .of_same rfl rfl
    · exact (raises_raise ⟨_, rfl⟩ s).congr rfl rfl
    · exact (raises_replaceWork (.inl ⟨_, rfl⟩) s).congr rfl rfl
  | pictureGainValue w =>
    rcases exec_pictureGainValue_cases h with rfl | ⟨g, o, p, _, ⟨_, rfl⟩ | ⟨_, rfl⟩⟩
    · exact .of_same rfl rfl
    · exact (raises_raise ⟨_, rfl⟩ _).congr_left rfl rfl
    · exact .of_same rfl rfl
  | fsyncFallingEdge time held high =>
    obtain ⟨u, ht, _, hu⟩ := exec_fsync_cases h
    refine Raises.congr_left ?_ (hu .pictureFlags nofun) (hu .supFlags nofun)
    rcases ht with rfl | rfl | rfl
    · exact .of_same rfl rfl
    · exact raises_raise ⟨_, _, _, rfl⟩ u
    · exact raises_frameStart (.inl ⟨_, _, _, rfl⟩) (.inl ⟨_, _, _, rfl⟩) u
  | lossTimerExpiry => exact ownFrame (.inl rfl)
  | internalFrameStart => exact ownFrame (.inr (.inl rfl))
  | setLoss params => exact ownFrame (.inr (.inr ⟨params, rfl⟩))
  | pictureReadStatus cut =>
    cases h
    cases cut
    · exact absurd rfl hp
    · exact .of_same rfl rfl
  | supervisorReadStatus p => exact absurd rfl (hs p)
  | softReset p => exact absurd rfl (hr p)
  | powerOnReset a b k f => exact absurd rfl (ho a b k f)
  | _ => exact kept rfl rfl

end Sys2Proof.Machine

namespace Sys2Proof.Machine

open Sys2Proof

/-! ### The event queue over a command -/

/-- A frame start posts what its commit posts (R112, R154). -/
theorem EventQueue.Grows.frameStart {q : EventQueue} {s : State} (h : q.Grows s.events) :
    q.Grows s.frameStart.events := by
  refine h.trans ?_
  have hflush : s.flush.events = s.events := by simp
  unfold State.frameStart
  split
  · rw [← hflush]
    exact EventQueue.grows_postAll _ _ _
  · rw [State.raise_events, hflush]
    exact .refl _

theorem EventQueue.Grows.internalStart {q : EventQueue} {s : State} (h : q.Grows s.events) (next : Nat) :
    q.Grows (s.internalStart next).events := by
  have hstart : q.Grows (State.frameStart { s with timing := { s.timing with freeRun := .running next } }).events :=
    .frameStart h
  simpa [State.internalStart] using hstart

/-- Discovery posts DISCOVERY-EMPTY at most (R107). -/
theorem EventQueue.Grows.discoverFrom {q : EventQueue} {s : State} (h : q.Grows s.events) (first : Nat) :
    q.Grows (s.discoverFrom first).events := by
  unfold State.discoverFrom
  split
  · exact h
  · unfold State.discoveryEnd
    split
    · exact h
    · exact h.trans (EventQueue.grows_post _ _ _ _ _ _)

theorem EventQueue.Grows.discoveryNext {q : EventQueue} {s : State} (h : q.Grows s.events) :
    q.Grows s.discoveryNext.events := by
  unfold State.discoveryNext
  split
  · exact h.discoverFrom _
  · exact h

theorem EventQueue.Grows.enterDiscovery {q : EventQueue} {s : State} (h : q.Grows s.events) :
    q.Grows s.enterDiscovery.events := by
  refine .discoverFrom ?_ 0
  exact h

/-- A READ ending handled whole posts its alerts and faults (R144). -/
theorem EventQueue.Grows.handRead {q : EventQueue} {s : State} (h : q.Grows s.events) (i : Nat) (kept : Bool)
    (p : Option ReadReport) : q.Grows (s.handRead i kept p).events := by
  unfold State.handRead
  split
  · split
    · cases p <;> exact h.trans (EventQueue.grows_postAll _ _ _)
    · exact h
  · exact h

theorem EventQueue.Grows.readFollows {q : EventQueue} {s : State} (h : q.Grows s.events) (i : Nat) (asker : ReadAsker)
    (claim : Bool) : q.Grows (s.readFollows i asker claim).events := by
  cases asker with
  | discovery =>
    cases claim
    · exact h
    · exact h.discoveryNext
  | probe => cases claim <;> exact h
  | attention | rotation => exact h

/-- The commands that post (R154). -/
def Posts (c : Instr) : Prop :=
  (∃ time held high, c = .fsyncFallingEdge time held high)
    ∨ c = .lossTimerExpiry ∨ c = .internalFrameStart ∨ (∃ p, c = .setLoss p)
    ∨ (∃ held, c = .killFallingEdge held) ∨ (∃ p, c = .start p) ∨ (∃ p, c = .rearm p)
    ∨ (∃ status wide, c = .discoveryConfigEnding status wide)
    ∨ (∃ status wide, c = .probeConfigEnding status wide)
    ∨ ∃ status response wide, c = .readEnding status response wide

/-- Over a command that posts, the event queue grows (R154, R155). -/
theorem exec_grows_of_posts {c : Instr} (hc : Posts c) {s t : State} (h : exec c s = .next t) :
    s.events.Grows t.events := by
  have ownFrame (hc : StartsOwnFrame c) : s.events.Grows t.events := by
    rcases exec_ownFrame_cases hc h with ht | ⟨u, next, rfl, hu, _⟩
    · rw [show t.events = s.events from ht .events nofun]
      exact .refl _
    · exact hu.internalStart next
  rcases hc with ⟨time, held, high, rfl⟩ | rfl | rfl | ⟨p, rfl⟩ | ⟨held, rfl⟩ | ⟨p, rfl⟩ | ⟨p, rfl⟩ | ⟨status, wide, rfl⟩
    | ⟨status, wide, rfl⟩ | ⟨status, response, wide, rfl⟩
  · obtain ⟨u, ht, hu, _⟩ := exec_fsync_cases h
    rcases ht with rfl | rfl | rfl
    · exact hu
    · exact hu
    · exact hu.frameStart
  · exact ownFrame (.inl rfl)
  · exact ownFrame (.inr (.inl rfl))
  · exact ownFrame (.inr (.inr ⟨p, rfl⟩))
  · cases h
    split
    · exact EventQueue.grows_post _ _ _ _ _ _
    · exact .refl _
  · cases h
    split
    · refine .enterDiscovery ?_
      exact .refl _
    · exact .refl _
  · cases h
    split
    · dsimp only
      split
      · exact .refl _
      · refine .enterDiscovery ?_
        exact .refl _
    · exact .refl _
  · cases h
    split
    · split
      · split
        · exact .refl _
        · exact .discoveryNext (EventQueue.grows_post _ _ _ _ _ _)
      · exact .refl _
    · exact .refl _
  · cases h
    split
    · split
      · split
        · exact EventQueue.grows_post _ _ _ _ _ _
        · exact .refl _
      · exact .refl _
    · exact .refl _
  · cases h
    split
    · refine .readFollows (.handRead ?_ _ _ _) _ _ _
      exact .refl _
    · exact .refl _

/-- EVENT-OVERFLOW moves at a command that posts, at the supervisor's READ STATUS and at the two resets (R155). -/
theorem exec_keeps_overflow {c : Instr} {s t : State} (h : exec c s = .next t) (hp : ¬Posts c)
    (hs : ∀ p, c ≠ .supervisorReadStatus p) (hr : ∀ p, c ≠ .softReset p) (ho : ∀ a b k f, c ≠ .powerOnReset a b k f) :
    t.events.overflow = s.events.overflow := by
  have kept (he : owns c .events = false) : t.events.overflow = s.events.overflow :=
    congrArg EventQueue.overflow (exec_keeps (p := .events) h he)
  cases c with
  | popEvent p => cases h; rfl
  | supervisorReadStatus p => exact absurd rfl (hs p)
  | softReset p => exact absurd rfl (hr p)
  | powerOnReset a b k f => exact absurd rfl (ho a b k f)
  | fsyncFallingEdge | lossTimerExpiry | internalFrameStart | setLoss | killFallingEdge | start | rearm
  | discoveryConfigEnding | probeConfigEnding | readEnding => exact absurd (by simp [Posts]) hp
  | _ => exact kept rfl

/-! ### The ACTIVE tag -/

/-- A frame start commits a SHIPPED map or raises LATE-COMMIT, after its flush (R76, R79). -/
theorem State.frameStart_cases (s : State) :
    (s.banks.pend = .shipped ∧ s.frameStart = s.flush.commit)
      ∨ (s.banks.pend ≠ .shipped ∧ s.frameStart = s.flush.raise .lateCommit) := by
  unfold State.frameStart
  rw [show s.flush.banks = s.banks by simp]
  split
  · next h => exact .inl ⟨h, rfl⟩
  · next h => exact .inr ⟨h, rfl⟩

/-- The banks exchanged by a commit of a SHIPPED map, with the gate closed and the pending state EMPTY (R77, R97). -/
structure Exchanged (s t : State) : Prop where
  shipped : s.banks.pend = .shipped
  tag : t.banks.active.tag = s.banks.pendingBank.tag
  pending : t.banks.pendingBank.zones = s.banks.active.zones ∧ t.banks.pendingBank.domains = s.banks.active.domains
  gate : t.timing.gateOpen = false

/-- A frame start leaves ACTIVE's tag, or exchanges the banks and leaves the pending state EMPTY. -/
theorem State.frameStart_tag (s : State) :
    s.frameStart.banks.active.tag = s.banks.active.tag
      ∨ (Exchanged s s.frameStart ∧ s.frameStart.banks.pend = .empty) := by
  have hb : s.flush.banks = s.banks := by simp
  rcases s.frameStart_cases with ⟨hp, h⟩ | ⟨_, h⟩
  · have hc : s.flush.commit.banks =
        { s.banks with active := s.flush.committedBank, pendingBank := s.banks.active, pend := .empty } := by simp
    rw [h]
    refine .inr ⟨⟨hp, ?_, ?_, rfl⟩, rfl⟩
    · rw [hc]
      show s.flush.banks.pendingBank.tag = _
      rw [hb]
    · rw [hc]
      exact ⟨rfl, rfl⟩
  · rw [h, State.raise_banks, hb]
    exact .inl rfl

/-- A loss solve leaves the records of the pending bank, and the pending state or makes it SOLVING (R26, R45). -/
theorem State.lossSolve_pending (s : State) :
    s.lossSolve.banks.pendingBank.zones = s.banks.pendingBank.zones
      ∧ s.lossSolve.banks.pendingBank.domains = s.banks.pendingBank.domains
      ∧ (s.lossSolve.banks.pend = s.banks.pend ∨ s.lossSolve.banks.pend = .solving) := by
  rcases s.lossSolve_cases with h | ⟨_, _, h⟩
  · rw [h]
    exact ⟨rfl, rfl, .inl rfl⟩
  · rw [h]
    split <;> exact ⟨rfl, rfl, .inr rfl⟩

/-- An internal frame start leaves ACTIVE's tag, or exchanges the banks and leaves the pending state EMPTY or
SOLVING. -/
theorem State.internalStart_tag (s : State) (next : Nat) :
    (s.internalStart next).banks.active.tag = s.banks.active.tag
      ∨ (Exchanged s (s.internalStart next)
        ∧ ((s.internalStart next).banks.pend = .empty ∨ (s.internalStart next).banks.pend = .solving)) := by
  unfold State.internalStart
  generalize hv : ({ s with timing := { s.timing with freeRun := .running next } } : State) = v
  have hb : v.banks = s.banks := by rw [← hv]
  obtain ⟨hz, hd, hpend⟩ := v.frameStart.lossSolve_pending
  rw [show v.frameStart.lossSolve.banks.active = v.frameStart.banks.active by simp, ← hb]
  rcases v.frameStart_tag with h | ⟨⟨hs, ht, ⟨hpz, hpd⟩, hg⟩, he⟩
  · exact .inl h
  · rw [he] at hpend
    refine .inr ⟨⟨by rw [← hb, hs], ?_, ⟨?_, ?_⟩, by simpa using hg⟩, hpend⟩
    · rw [← hb, ← ht]
      simp
    · rw [hz, hpz, hb]
    · rw [hd, hpd, hb]

@[simp] theorem State.discoverFrom_tag (s : State) (first : Nat) :
    (s.discoverFrom first).banks.active.tag = s.banks.active.tag := by
  unfold State.discoverFrom State.discoveryEnd
  split
  · rfl
  · split <;> rfl

@[simp] theorem State.discoveryNext_tag (s : State) : s.discoveryNext.banks.active.tag = s.banks.active.tag := by
  unfold State.discoveryNext
  split <;> simp

@[simp] theorem State.enterDiscovery_tag (s : State) : s.enterDiscovery.banks.active.tag = s.banks.active.tag := by
  simp [State.enterDiscovery]

@[simp] theorem State.readFollows_tag (s : State) (i : Nat) (asker : ReadAsker) (claim : Bool) :
    (s.readFollows i asker claim).banks.active.tag = s.banks.active.tag := by
  unfold State.readFollows
  cases asker <;> cases claim <;> simp

/-- What moves ACTIVE's tag: a commit at a frame start, and the two resets (R77). -/
theorem exec_activeTag {c : Instr} {s t : State} (h : exec c s = .next t) :
    t.banks.active.tag = s.banks.active.tag
      ∨ (Exchanged s t
        ∧ ((∃ time held high, c = .fsyncFallingEdge time held high) ∧ t.banks.pend = .empty
          ∨ StartsOwnFrame c ∧ (t.banks.pend = .empty ∨ t.banks.pend = .solving)))
      ∨ (t.banks.active.tag = ⟨false, 0⟩
        ∧ ((∃ p, c = .softReset p) ∨ ∃ a b k f, c = .powerOnReset a b k f)) := by
  have kept (ha : owns c .active = false) : t.banks.active.tag = s.banks.active.tag :=
    congrArg Bank.tag (exec_keeps (p := .active) h ha)
  have moved {u : State} (ha : u.banks.active = s.banks.active) (hb : u.banks.pendingBank = s.banks.pendingBank)
      (hp : u.banks.pend = s.banks.pend) (hx : Exchanged u t) : Exchanged s t :=
    ⟨hp ▸ hx.shipped, hb ▸ hx.tag, ha ▸ hx.pending, hx.gate⟩
  have ownFrame (hc : StartsOwnFrame c) : t.banks.active.tag = s.banks.active.tag
      ∨ Exchanged s t ∧ StartsOwnFrame c ∧ (t.banks.pend = .empty ∨ t.banks.pend = .solving) := by
    rcases exec_ownFrame_cases hc h with ht | ⟨u, next, rfl, _, hu⟩
    · exact .inl (congrArg Bank.tag (ht .active nofun))
    · have ha := hu .active nofun nofun
      rcases u.internalStart_tag next with ht | ⟨hx, he⟩
      · exact .inl (ht.trans (congrArg Bank.tag ha))
      · exact .inr ⟨moved ha (hu .pendingBank nofun nofun) (hu .pend nofun nofun) hx, hc, he⟩
  cases c with
  | fsyncFallingEdge time held high =>
    obtain ⟨u, ht, _, hu⟩ := exec_fsync_cases h
    have ha := hu .active nofun
    rcases ht with rfl | rfl | rfl
    · exact .inl (congrArg Bank.tag ha)
    · exact .inl (congrArg Bank.tag ha)
    · rcases u.frameStart_tag with ht | ⟨hx, he⟩
      · exact .inl (ht.trans (congrArg Bank.tag ha))
      · exact .inr (.inl ⟨moved ha (hu .pendingBank nofun) (hu .pend nofun) hx, .inl ⟨⟨_, _, _, rfl⟩, he⟩⟩)
  | lossTimerExpiry => exact (ownFrame (.inl rfl)).imp_right fun ⟨hx, hc⟩ => .inl ⟨hx, .inr hc⟩
  | internalFrameStart => exact (ownFrame (.inr (.inl rfl))).imp_right fun ⟨hx, hc⟩ => .inl ⟨hx, .inr hc⟩
  | setLoss p => exact (ownFrame (.inr (.inr ⟨p, rfl⟩))).imp_right fun ⟨hx, hc⟩ => .inl ⟨hx, .inr hc⟩
  | start p =>
    cases h
    split <;> exact .inl (by simp)
  | rearm p =>
    cases h
    split
    · dsimp only
      split <;> exact .inl (by simp [Bank.reset])
    · exact .inl rfl
  | discoveryConfigEnding status wide =>
    cases h
    split
    · split
      · split <;> exact .inl (by simp)
      · exact .inl rfl
    · exact .inl rfl
  | readEnding status response wide =>
    cases h
    split <;> exact .inl (by simp)
  | softReset p =>
    cases h
    split <;> exact .inr (.inr ⟨by simp; rfl, .inl ⟨p, rfl⟩⟩)
  | powerOnReset a b k f =>
    cases h
    exact .inr (.inr ⟨rfl, .inr ⟨a, b, k, f, rfl⟩⟩)
  | _ => exact .inl (kept rfl)

end Sys2Proof.Machine

namespace Sys2Proof.Machine

open Sys2Proof

/-! ### Demands and settings -/

/-- A value of a WRITE DEMAND, SET GRID and power-on reset alone change a demand (R6). -/
theorem exec_keeps_demand {c : Instr} {s t : State} (h : exec c s = .next t) (hv : ∀ v, c ≠ .demandValue v)
    (hg : ∀ p, c ≠ .setGrid p) (ho : ∀ a b k f, c ≠ .powerOnReset a b k f) : t.zone.demand = s.zone.demand := by
  refine exec_keeps (p := .demand) h ?_
  cases c with
  | demandValue v => exact absurd rfl (hv v)
  | setGrid p => exact absurd rfl (hg p)
  | powerOnReset a b k f => exact absurd rfl (ho a b k f)
  | _ => rfl

/-- The one command, besides power-on reset, that owns a setting (section 10.3). -/
def setterOf : Part → Instr → Prop
  | .budgets, c => ∃ p, c = .setBudget p
  | .slew, c => ∃ p, c = .setSlew p
  | .derate, c => ∃ p, c = .setDerate p
  | .scan, c => ∃ p, c = .setScan p
  | .loss, c => ∃ p, c = .setLoss p
  | .linkSettings, c => ∃ p, c = .setLink p
  | .liveSet, c => ∃ p, c = .selectGainSet p
  | .grid, c => ∃ p, c = .setGrid p
  | .straps, _ => False
  | _, _ => True

/-- A setting is kept by every command but its own and power-on reset. -/
theorem exec_keeps_setting {c : Instr} {s t : State} (h : exec c s = .next t)
    (ho : ∀ a b k f, c ≠ .powerOnReset a b k f) {p : Part} (hp : ¬setterOf p c) : t.part p = s.part p := by
  refine exec_keeps h ?_
  cases c with
  | powerOnReset a b k f => exact absurd rfl (ho a b k f)
  | _ => cases p <;> simp [setterOf] at hp <;> rfl

/-! ### The statement -/

/-- A SOFT RESET clears every flag of both copies (R169, R183). -/
theorem exec_softReset_flags {p : List Byte} {s t : State} (h : exec (.softReset p) s = .next t) :
    t.picture.flags = .none ∧ t.sup.flags = .none := by
  cases h
  split
  · exact ⟨rfl, rfl⟩
  · simp only [State.safetyEntry_keeps]
    exact ⟨rfl, rfl⟩

/-- A flag that a command sets is one that it may, and is set in both copies (R169). -/
theorem exec_sets_flag {c : Instr} {s t : State} (h : exec c s = .next t) {f : PortFlag}
    (hf : (s.picture.flags.has f = false ∧ t.picture.flags.has f = true)
      ∨ (s.sup.flags.has f = false ∧ t.sup.flags.has f = true)) :
    t.picture.flags.has f = true ∧ t.sup.flags.has f = true ∧ SetsFlag c f := by
  have cleared (hp : t.picture.flags = s.picture.flags ∨ t.picture.flags = .none)
      (hs : t.sup.flags = s.sup.flags ∨ t.sup.flags = .none) : False := by
    rcases hf with ⟨hn, hy⟩ | ⟨hn, hy⟩
    · rcases hp with hp | hp <;> simp [hp, hn] at hy
    · rcases hs with hs | hs <;> simp [hs, hn] at hy
  by_cases hp : c = .pictureReadStatus false
  · subst hp
    cases h
    exact (cleared (.inr rfl) (.inl rfl)).elim
  by_cases hs : ∃ p, c = .supervisorReadStatus p
  · obtain ⟨p, rfl⟩ := hs
    cases h
    exact (cleared (.inl rfl) (.inr rfl)).elim
  by_cases hr : ∃ p, c = .softReset p
  · obtain ⟨p, rfl⟩ := hr
    obtain ⟨hp, hs⟩ := exec_softReset_flags h
    exact (cleared (.inr hp) (.inr hs)).elim
  by_cases ho : ∃ a b k f, c = .powerOnReset a b k f
  · obtain ⟨a, b, k, f, rfl⟩ := ho
    cases h
    exact (cleared (.inr rfl) (.inr rfl)).elim
  obtain ⟨raised, hmem, hpic, hsup⟩ := exec_raises h hp (fun p hc => hs ⟨p, hc⟩) (fun p hc => hr ⟨p, hc⟩)
    fun a b k f hc => ho ⟨a, b, k, f, hc⟩
  have hraised : raised f = true := by
    rcases hf with ⟨hn, hy⟩ | ⟨hn, hy⟩
    · simpa [hpic, hn] using hy
    · simpa [hsup, hn] using hy
  exact ⟨by simp [hpic, hraised], by simp [hsup, hraised], hmem f hraised⟩

/-- A set flag of the picture copy stays set over every command but its READ STATUS and the two resets (R169). -/
theorem exec_keeps_pictureFlag {c : Instr} {s t : State} (h : exec c s = .next t) (hp : c ≠ .pictureReadStatus false)
    (hr : ∀ p, c ≠ .softReset p) (ho : ∀ a b k f, c ≠ .powerOnReset a b k f) {f : PortFlag}
    (hf : s.picture.flags.has f = true) : t.picture.flags.has f = true := by
  by_cases hs : ∃ p, c = .supervisorReadStatus p
  · obtain ⟨p, rfl⟩ := hs
    cases h
    exact hf
  · obtain ⟨raised, _, hpic, _⟩ := exec_raises h hp (not_exists.mp hs) hr ho
    simp [hpic, hf]

/-- A set flag of the supervisor copy stays set over every command but its READ STATUS and the two resets (R169). -/
theorem exec_keeps_supFlag {c : Instr} {s t : State} (h : exec c s = .next t) (hs : ∀ p, c ≠ .supervisorReadStatus p)
    (hr : ∀ p, c ≠ .softReset p) (ho : ∀ a b k f, c ≠ .powerOnReset a b k f) {f : PortFlag}
    (hf : s.sup.flags.has f = true) : t.sup.flags.has f = true := by
  by_cases hp : c = .pictureReadStatus false
  · subst hp
    cases h
    exact hf
  · obtain ⟨raised, _, _, hsup⟩ := exec_raises h hp hs hr ho
    simp [hsup, hf]

/-- Where EVENT-OVERFLOW is set, the command posts and the queue is full (R155). -/
theorem exec_sets_overflow {c : Instr} {s t : State} (h : exec c s = .next t) (hs : s.events.overflow = false)
    (ht : t.events.overflow = true) : 32 ≤ t.events.records.length ∧ Posts c := by
  by_cases hp : Posts c
  · exact ⟨(exec_grows_of_posts hp h).full hs ht, hp⟩
  refine absurd (exec_keeps_overflow h hp ?_ ?_ ?_) (by simp [hs, ht]) <;> intros <;> rintro rfl <;> cases h
  · simp at ht
  · split at ht
    · cases ht
    · have hn : ((⟨[], false⟩ : EventQueue).post .zero .kill none none none).overflow = true := ht
      cases hn
  · cases ht

/-- Settles O49: each clause follows from the table of the parts that a command owns and from what the owners of the
flags, of the event queue and of ACTIVE do with them. -/
theorem eachCommandLeavesTheRestAlone : Obligations.EachCommandLeavesTheRestAlone := by
  unfold Obligations.EachCommandLeavesTheRestAlone
  refine ⟨fun c s t h hv hg ho z => ?_, fun c s t h => ?_, fun c s t h hr ho => ⟨fun hp f hf => ?_, fun hs =>
    ⟨fun f hf => ?_, fun hf => ?_⟩⟩, fun c s t h => ⟨fun f hf => ?_, fun hs ht => exec_sets_overflow h hs ht⟩,
    fun c s t h ho => ?_⟩
  · simp [ZoneStore.demandAt, exec_keeps_demand h hv hg ho]
  · exact (exec_activeTag h).imp_right fun h => h.imp_left fun ⟨⟨hs, ht, ⟨hz, hd⟩, hg⟩, hc⟩ => ⟨hs, ht, hz, hd, hg, hc⟩
  · rw [PortFlags.set_eq_self_iff] at hf ⊢
    exact exec_keeps_pictureFlag h hp hr ho hf
  · rw [PortFlags.set_eq_self_iff] at hf ⊢
    exact exec_keeps_supFlag h hs hr ho hf
  · by_cases hp : Posts c
    · exact (exec_grows_of_posts hp h).overflow hf
    · rw [exec_keeps_overflow h hp hs hr ho, hf]
  · simp only [ne_eq, PortFlags.set_eq_self_iff, Bool.not_eq_true] at hf ⊢
    obtain ⟨hp, hs, hm⟩ := exec_sets_flag h hf
    exact ⟨hp, hs, by cases f <;> exact hm⟩
  · have kept (p : Part) (hp : ¬setterOf p c) : t.part p = s.part p := exec_keeps_setting h ho hp
    refine ⟨fun hc => kept .budgets (not_exists.mpr hc), fun hc => Prod.mk.inj (kept .slew (not_exists.mpr hc)),
      fun hc => kept .derate (not_exists.mpr hc), fun hc => kept .scan (not_exists.mpr hc),
      fun hc => kept .loss (not_exists.mpr hc), fun hc => ?_, fun hc => kept .liveSet (not_exists.mpr hc),
      fun hc => Prod.mk.inj (kept .grid (not_exists.mpr hc)), kept .straps not_false⟩
    obtain ⟨hrate, hrest⟩ := Prod.mk.inj (kept .linkSettings (not_exists.mpr hc))
    exact ⟨hrate, Prod.mk.inj hrest⟩

end Sys2Proof.Machine

/-! ## Demand store, solver, pending state, tag and gate keep step (O57) -/

namespace Sys2Proof.Machine

open Sys2Proof

/-! ### A step, and the commands that start a frame -/

/-- A step lets a microsecond pass, or is a command on the state with the rest of the queue. -/
theorem step_cases {s t : State} (h : step s = .next t) :
    t = s.tick ∨ ∃ c rest, exec c { s with pending := rest } = .next t := by
  unfold step at h
  split at h
  · cases h
    exact .inl rfl
  · exact .inr ⟨_, _, h⟩

/-- A property holds after a command with a frame start of the device's own, if timers and posts do not bear on it, an
internal frame start keeps it, and the loss settings stand as after the command. -/
theorem exec_ownFrame_keeps {P : State → Prop} {c : Instr} (hc : StartsOwnFrame c) {s t : State}
    (h : exec c s = .next t)
    (hsame : ∀ u, u.sup.loss = t.sup.loss → (∀ p, p ≠ .loss → p ≠ .events → u.part p = s.part p) → P u)
    (hstart : ∀ u next, P u → P (u.internalStart next)) : P t := by
  rcases exec_ownFrame_cases hc h with ht | ⟨u, next, rfl, _, hu⟩
  · exact hsame t rfl fun p hl _ => ht p hl
  · exact hstart u next (hsame u (by simp) hu)

/-- A property holds after an FSYNC edge, if timers, posts and flags do not bear on it and a frame start keeps it. -/
theorem exec_fsync_keeps {P : State → Prop} {time held high : Nat} {s t : State}
    (h : exec (.fsyncFallingEdge time held high) s = .next t)
    (hsame : ∀ u, (∀ p, p ≠ .events → p ≠ .pictureFlags → p ≠ .supFlags → u.part p = s.part p) → P u)
    (hstart : ∀ u : State, P u → P u.frameStart) : P t := by
  obtain ⟨u, ht, _, hu⟩ := exec_fsync_cases h
  have hP : P u := hsame u fun p he _ _ => hu p he
  rcases ht with rfl | rfl | rfl
  · exact hP
  · refine hsame _ fun p he hp hs => .trans ?_ (hu p he)
    cases p with
    | pictureFlags => exact absurd rfl hp
    | supFlags => exact absurd rfl hs
    | _ => rfl
  · exact hstart u hP

/-- A loss solve leaves solver and banks, or begins on an idle solver and leaves the map SOLVING with the next tag
(R26, R45, R83). -/
theorem State.lossSolve_starts (s : State) :
    s.lossSolve = s
      ∨ (s.solver.phase = .idle ∧ s.lossSolve.solver.phase = .pass1 ∧ s.lossSolve.solver.kind = .loss
        ∧ s.lossSolve.solver.voided = false ∧ s.lossSolve.banks.pend = .solving
        ∧ s.lossSolve.banks.pendingBank.tag.count = s.lossSolve.banks.active.tag.count + 1) := by
  rcases s.lossSolve_cases with h | ⟨hidle, _, h⟩
  · exact .inl h
  · rw [h]
    refine .inr ⟨hidle, ?_⟩
    split <;> exact ⟨rfl, rfl, rfl, rfl, rfl⟩

/-- The ending of a LEVEL leaves the pending state, or a SOLVED map becomes SHIPPED with the gate OPEN (R109, R110). -/
theorem exec_levelEnding_pend {status : LinkStatus} {wide : Bool} {s t : State}
    (h : exec (.levelEnding status wide) s = .next t) :
    t.banks.pend = s.banks.pend
      ∨ s.banks.pend = .solved ∧ t.banks.pend = .shipped ∧ t.timing.gateOpen = true := by
  cases h
  split
  · split
    · refine (State.continueRound_pend _).imp_right fun ⟨hs, hg, ht⟩ => ⟨hs, ht, ?_⟩
      simpa using hg
    · exact .inl rfl
  · exact .inl rfl

/-- The ending of a LATCH leaves the pending state, or a SOLVED map becomes SHIPPED with the gate OPEN (R91, R109). -/
theorem exec_latchEnding_pend {errorReport wide : Bool} {s t : State}
    (h : exec (.latchEnding errorReport wide) s = .next t) :
    t.banks.pend = s.banks.pend
      ∨ s.banks.pend = .solved ∧ t.banks.pend = .shipped ∧ t.timing.gateOpen = true := by
  cases h
  split
  · dsimp only
    split
    · exact .inl rfl
    · split
      · exact (State.bandEnded_pend _).imp_right fun ⟨hs, hg, ht⟩ => ⟨hs, ht, hg⟩
      · exact .inl rfl
  · exact .inl rfl

/-! ### The demand store (R7, R20) -/

/-- The solver and the demand store's state alone bear on it. -/
theorem DemandStoreInv.congr {s t : State} (hi : DemandStoreInv s) (hopen : t.zone.storeOpen = s.zone.storeOpen)
    (hsol : t.solver = s.solver) : DemandStoreInv t := by
  unfold DemandStoreInv
  rw [hopen, hsol]
  exact hi

theorem DemandStoreInv.frameStart {s : State} (hi : DemandStoreInv s) : DemandStoreInv s.frameStart :=
  hi.congr (by simp) (by simp)

theorem DemandStoreInv.internalStart {s : State} (hi : DemandStoreInv s) (next : Nat) :
    DemandStoreInv (s.internalStart next) := by
  unfold State.internalStart
  have hv : DemandStoreInv (State.frameStart { s with timing := { s.timing with freeRun := .running next } }) :=
    .frameStart hi
  revert hv
  generalize State.frameStart _ = v
  intro hv
  rcases v.lossSolve_starts with h | ⟨hidle, _, hkind, _⟩
  · rwa [h]
  · unfold DemandStoreInv at hv ⊢
    simp only [hidle, hkind, State.lossSolve_storeOpen] at hv ⊢
    simpa using hv

theorem exec_keeps_demandStoreInv {c : Instr} {s t : State} (h : exec c s = .next t) (hi : DemandStoreInv s) :
    DemandStoreInv t := by
  have kept (hs : owns c .store = false) (hv : owns c .solver = false) : DemandStoreInv t :=
    hi.congr (exec_keeps (p := .store) h hs) (exec_keeps (p := .solver) h hv)
  have ownFrame (hc : StartsOwnFrame c) : DemandStoreInv t :=
    exec_ownFrame_keeps hc h (fun u _ hu => hi.congr (hu .store nofun nofun) (hu .solver nofun nofun))
      fun u next => .internalStart (next := next)
  cases c with
  | closeFrame record cut =>
    rcases exec_closeFrame_cases h with ⟨_, rfl⟩ | ⟨_, rfl⟩ | ⟨_, _, _, r, _, rfl⟩
    · exact hi
    · exact hi
    · simp [DemandStoreInv, State.startSolve]
  | lossTimerExpiry => exact ownFrame (.inl rfl)
  | internalFrameStart => exact ownFrame (.inr (.inl rfl))
  | setLoss p => exact ownFrame (.inr (.inr ⟨p, rfl⟩))
  | stop p =>
    cases h
    split <;> exact hi
  | killFallingEdge held =>
    cases h
    split <;> exact hi
  | softReset p =>
    cases h
    split <;> simp [DemandStoreInv, State.softReset]
  | powerOnReset a b k f =>
    cases h
    simp [DemandStoreInv, ZoneStore.reset, Solver.reset]
  | pass1Zone =>
    cases h
    split
    · next hp =>
      unfold DemandStoreInv at hi ⊢
      rw [hp.1] at hi
      by_cases hlast : s.solver.cursor + 1 = s.zone.n
      · cases hk : s.solver.kind <;> simp_all
      · simpa [hlast] using hi
    · exact hi
  | factorStep =>
    cases h
    split
    · next hp =>
      unfold DemandStoreInv at hi ⊢
      simpa [hp] using hi
    · exact hi
  | pass2Zone =>
    cases h
    split
    · next hp =>
      unfold DemandStoreInv at hi ⊢
      split
      · simpa [hp.1] using hi
      · simpa [hp.1, State.pass2Step] using hi
    · exact hi
  | _ => exact kept rfl rfl

/-! ### The pending state and the solver (R42, R46, R73) -/

/-- The solver and the pending state alone bear on it. -/
theorem PendingInv.congr {s t : State} (hi : PendingInv s) (hsol : t.solver = s.solver)
    (hpend : t.banks.pend = s.banks.pend) : PendingInv t := by
  unfold PendingInv
  rw [hsol, hpend]
  exact hi

/-- A pending state that is not SOLVING may move to another, and one that is EMPTY stays, with the solver as it is. -/
theorem PendingInv.move {s t : State} (hi : PendingInv s) (hsol : t.solver = s.solver)
    (hs : s.banks.pend ≠ .solving) (ht : t.banks.pend ≠ .solving)
    (he : s.banks.pend = .empty → t.banks.pend = .empty) : PendingInv t := by
  obtain ⟨hsolving, hvoided⟩ := hi
  unfold PendingInv
  rw [hsol]
  exact ⟨⟨fun h => absurd h ht, fun h => absurd (hsolving.mpr h) hs⟩, fun h => ⟨(hvoided h).1, he (hvoided h).2⟩⟩

/-- A SOLVED map that becomes SHIPPED, with the solver as it is. -/
theorem PendingInv.ship {s t : State} (hi : PendingInv s) (hsol : t.solver = s.solver)
    (hpend : t.banks.pend = s.banks.pend ∨ s.banks.pend = .solved ∧ t.banks.pend = .shipped) : PendingInv t := by
  rcases hpend with h | ⟨hs, ht⟩
  · exact hi.congr hsol h
  · exact hi.move hsol (by simp [hs]) (by simp [ht]) (by simp [hs])

theorem PendingInv.frameStart {s : State} (hi : PendingInv s) : PendingInv s.frameStart := by
  have hpend := s.frameStart_pend
  split at hpend
  · next hs => exact hi.move (by simp) (by simp [hs]) (by simp [hpend]) (fun _ => hpend)
  · exact hi.congr (by simp) hpend

theorem PendingInv.internalStart {s : State} (hi : PendingInv s) (next : Nat) : PendingInv (s.internalStart next) := by
  unfold State.internalStart
  have hv : PendingInv (State.frameStart { s with timing := { s.timing with freeRun := .running next } }) :=
    .frameStart hi
  revert hv
  generalize State.frameStart _ = v
  intro hv
  rcases v.lossSolve_starts with h | ⟨_, hphase, _, hvoided, hpend, _⟩
  · rwa [h]
  · simp [PendingInv, hphase, hvoided, hpend]

/-- The operations of a STOP and of a KILL end with the pending state EMPTY and a solve in flight voided (R46, R75). -/
theorem PendingInv.ended {s t : State} (hi : PendingInv s) (hsol : t.solver = s.solver.void)
    (hpend : t.banks.pend = .empty) : PendingInv t := by
  unfold PendingInv
  rw [hsol, hpend]
  obtain ⟨_, hvoided⟩ := hi
  by_cases hp : s.solver.phase = .idle
  · have : s.solver.voided = false := by
      by_contra hv
      exact (hvoided (by simpa using hv)).1 hp
    simp [hp, this]
  · simp [hp]

theorem exec_keeps_pendingInv {c : Instr} {s t : State} (h : exec c s = .next t) (hi : PendingInv s) :
    PendingInv t := by
  have kept (hv : owns c .solver = false) (hp : owns c .pend = false) : PendingInv t :=
    hi.congr (exec_keeps (p := .solver) h hv) (exec_keeps (p := .pend) h hp)
  have ownFrame (hc : StartsOwnFrame c) : PendingInv t :=
    exec_ownFrame_keeps hc h (fun u _ hu => hi.congr (hu .solver nofun nofun) (hu .pend nofun nofun))
      fun u next => .internalStart (next := next)
  cases c with
  | closeFrame record cut =>
    rcases exec_closeFrame_cases h with ⟨_, rfl⟩ | ⟨_, rfl⟩ | ⟨_, _, _, r, _, rfl⟩
    · exact hi
    · exact hi
    · simp [PendingInv, State.startSolve]
  | fsyncFallingEdge time held high =>
    exact exec_fsync_keeps h (fun u hu => hi.congr (hu .solver nofun nofun nofun) (hu .pend nofun nofun nofun))
      fun u => .frameStart
  | lossTimerExpiry => exact ownFrame (.inl rfl)
  | internalFrameStart => exact ownFrame (.inr (.inl rfl))
  | setLoss p => exact ownFrame (.inr (.inr ⟨p, rfl⟩))
  | stop p =>
    cases h
    split
    · exact hi
    · exact hi
    · exact hi.ended rfl rfl
    · exact hi.ended rfl rfl
  | killFallingEdge held =>
    cases h
    split
    · exact hi.ended rfl rfl
    · exact hi
  | softReset p =>
    cases h
    split <;> simp [PendingInv, State.softReset, State.safetyEntry, Solver.void]
  | powerOnReset a b k f =>
    cases h
    simp [PendingInv, Solver.reset]
  | pass1Zone =>
    cases h
    split
    · next hp =>
      unfold PendingInv at hi ⊢
      rw [hp.1] at hi
      by_cases hlast : s.solver.cursor + 1 = s.zone.n <;> simpa [hlast] using hi
    · exact hi
  | factorStep =>
    cases h
    split
    · next hp =>
      unfold PendingInv at hi ⊢
      simpa [hp] using hi
    · exact hi
  | pass2Zone =>
    cases h
    split
    · next hp =>
      split
      · obtain ⟨hv, hk⟩ := s.pass2Step.solveEnd_pend
        cases hvoid : s.solver.voided with
        | true =>
          have he : s.pass2Step.solveEnd.banks.pend = .empty := (hv hvoid).trans (hi.2 hvoid).2
          simp [PendingInv, he]
        | false =>
          rcases hk hvoid with he | ⟨_, he⟩ <;> simp [PendingInv, he]
      · exact hi
    · exact hi
  | levelEnding status wide =>
    exact hi.ship (exec_keeps (p := .solver) h rfl) ((exec_levelEnding_pend h).imp_right fun ⟨hs, ht, _⟩ => ⟨hs, ht⟩)
  | latchEnding errorReport wide =>
    exact hi.ship (exec_keeps (p := .solver) h rfl) ((exec_latchEnding_pend h).imp_right fun ⟨hs, ht, _⟩ => ⟨hs, ht⟩)
  | _ => exact kept rfl rfl

end Sys2Proof.Machine

namespace Sys2Proof.Machine

open Sys2Proof

/-! ### The tag of a pending map (R26) -/

/-- The two tags and the pending state alone bear on it; a map need not become pending. -/
theorem TagInv.congr {s t : State} (hi : TagInv s) (ha : t.banks.active.tag = s.banks.active.tag)
    (hb : t.banks.pendingBank.tag = s.banks.pendingBank.tag)
    (hp : s.banks.pend = .empty → t.banks.pend = .empty) : TagInv t := by
  intro ht
  rw [ha, hb]
  exact hi fun hs => ht (hp hs)

theorem TagInv.of_empty {t : State} (h : t.banks.pend = .empty) : TagInv t := fun ht => absurd h ht

theorem TagInv.frameStart {s : State} (hi : TagInv s) : TagInv s.frameStart := by
  have hpend := s.frameStart_pend
  rcases s.frameStart_cases with ⟨hs, _⟩ | ⟨hs, h⟩
  · exact .of_empty (by rw [hpend, if_pos hs])
  · have hb : s.frameStart.banks = s.banks := by rw [h]; simp
    exact hi.congr (by rw [hb]) (by rw [hb]) (by rw [hb]; exact id)

theorem TagInv.internalStart {s : State} (hi : TagInv s) (next : Nat) : TagInv (s.internalStart next) := by
  unfold State.internalStart
  have hv : TagInv (State.frameStart { s with timing := { s.timing with freeRun := .running next } }) :=
    .frameStart hi
  revert hv
  generalize State.frameStart _ = v
  intro hv
  rcases v.lossSolve_starts with h | ⟨_, _, _, _, _, htag⟩
  · rwa [h]
  · exact fun _ => htag

/-- A command that neither starts a frame nor resets the device leaves ACTIVE's tag (R77). -/
theorem exec_keeps_activeTag {c : Instr} {s t : State} (h : exec c s = .next t) (hf : ¬StartsOwnFrame c)
    (he : ∀ time held high, c ≠ .fsyncFallingEdge time held high) (hr : ∀ p, c ≠ .softReset p)
    (ho : ∀ a b k f, c ≠ .powerOnReset a b k f) : t.banks.active.tag = s.banks.active.tag := by
  rcases exec_activeTag h with ha | ⟨_, ⟨⟨time, held, high, hc⟩, _⟩ | ⟨hc, _⟩⟩ | ⟨_, ⟨p, hc⟩ | ⟨a, b, k, f, hc⟩⟩
  · exact ha
  · exact absurd hc (he time held high)
  · exact absurd hc hf
  · exact absurd hc (hr p)
  · exact absurd hc (ho a b k f)

/-- A solve that ends leaves the tag of the pending bank. -/
@[simp] theorem State.solveEnd_tag (s : State) :
    s.solveEnd.banks.pendingBank.tag = s.banks.pendingBank.tag := by
  unfold State.solveEnd
  dsimp only
  split <;> simp

theorem exec_keeps_tagInv {c : Instr} {s t : State} (h : exec c s = .next t) (hp : PendingInv s) (hi : TagInv s) :
    TagInv t := by
  have pend (hn : owns c .pend = false) : s.banks.pend = .empty → t.banks.pend = .empty := fun he =>
    (exec_keeps (p := .pend) h hn).trans he
  have pending (hn : owns c .pendingBank = false) : t.banks.pendingBank.tag = s.banks.pendingBank.tag :=
    congrArg Bank.tag (exec_keeps (p := .pendingBank) h hn)
  have active (hn : owns c .active = false) : t.banks.active.tag = s.banks.active.tag :=
    congrArg Bank.tag (exec_keeps (p := .active) h hn)
  have ownFrame (hc : StartsOwnFrame c) : TagInv t :=
    exec_ownFrame_keeps hc h (fun u _ hu => hi.congr (congrArg Bank.tag (hu .active nofun nofun))
      (congrArg Bank.tag (hu .pendingBank nofun nofun)) fun he => (hu .pend nofun nofun).trans he)
      fun u next => .internalStart (next := next)
  have moved (ha : t.banks.active.tag = s.banks.active.tag) (hb : owns c .pendingBank = false)
      (he : s.banks.pend = .empty → t.banks.pend = .empty) : TagInv t := hi.congr ha (pending hb) he
  cases c with
  | closeFrame record cut =>
    rcases exec_closeFrame_cases h with ⟨_, rfl⟩ | ⟨_, rfl⟩ | ⟨_, _, _, r, _, rfl⟩
    · exact hi
    · exact hi
    · exact fun _ => rfl
  | fsyncFallingEdge time held high =>
    exact exec_fsync_keeps h (fun u hu => hi.congr (congrArg Bank.tag (hu .active nofun nofun nofun))
      (congrArg Bank.tag (hu .pendingBank nofun nofun nofun)) fun he => (hu .pend nofun nofun nofun).trans he)
      fun u => .frameStart
  | lossTimerExpiry => exact ownFrame (.inl rfl)
  | internalFrameStart => exact ownFrame (.inr (.inl rfl))
  | setLoss p => exact ownFrame (.inr (.inr ⟨p, rfl⟩))
  | stop p =>
    cases h
    split
    · exact hi
    · exact hi
    · exact .of_empty rfl
    · exact .of_empty rfl
  | killFallingEdge held =>
    cases h
    split
    · exact .of_empty rfl
    · exact hi
  | softReset p =>
    cases h
    split <;> exact .of_empty rfl
  | powerOnReset a b k f =>
    cases h
    exact .of_empty rfl
  | start | rearm | discoveryConfigEnding | readEnding =>
    exact moved (exec_keeps_activeTag h (by simp [StartsOwnFrame]) nofun nofun nofun) rfl (pend rfl)
  | pass1Zone =>
    cases h
    split <;> exact hi
  | pass2Zone =>
    cases h
    split
    · next hphase =>
      split
      · refine hi.congr ?_ (State.solveEnd_tag _) fun he => ?_
        · simp
        · have hvoid : s.solver.voided = true := by
            by_contra hv
            have hs := hp.1.mpr ⟨by simp [hphase.1], by simpa using hv⟩
            simp [he] at hs
          exact (s.pass2Step.solveEnd_pend.1 hvoid).trans he
      · exact hi
    · exact hi
  | levelEnding status wide =>
    refine moved (active rfl) rfl fun he => ?_
    rcases exec_levelEnding_pend h with ht | ⟨hs, _⟩
    · rw [ht, he]
    · simp [he] at hs
  | latchEnding errorReport wide =>
    refine moved (active rfl) rfl fun he => ?_
    rcases exec_latchEnding_pend h with ht | ⟨hs, _⟩
    · rw [ht, he]
    · simp [he] at hs
  | _ => exact hi.congr (active rfl) (pending rfl) (pend rfl)

/-! ### Gate and schedule (R89, R91, R96, R97, R99) -/

/-- The gate is CLOSED exactly while a schedule is RUNNING (R97). -/
def FrameTiming.inStep (t : FrameTiming) : Prop := t.gateOpen = false ↔ t.schedule.isSome = true

theorem FrameTiming.inStep_of_open {t : FrameTiming} (hg : t.gateOpen = true) (hs : t.schedule = none) : t.inStep := by
  simp [FrameTiming.inStep, hg, hs]

/-- Gate, schedule and pending state alone bear on it; a map that is SHIPPED was so before or finds the gate OPEN. -/
theorem GateInv.move {s t : State} (hi : GateInv s)
    (hgate : (t.timing.gateOpen = s.timing.gateOpen ∧ t.timing.schedule.isSome = s.timing.schedule.isSome)
      ∨ t.timing.gateOpen = true ∧ t.timing.schedule = none)
    (hpend : t.banks.pend = .shipped → s.banks.pend = .shipped ∨ t.timing.gateOpen = true) : GateInv t := by
  obtain ⟨hstep, hship⟩ := hi
  rcases hgate with ⟨hg, hs⟩ | ⟨hg, hs⟩
  · refine ⟨by rw [hg, hs]; exact hstep, fun ht => ?_⟩
    rcases hpend ht with h | h
    · rw [hg, hship h]
    · exact h
  · exact ⟨FrameTiming.inStep_of_open hg hs, fun _ => hg⟩

/-- Two states with the same gate and pending state. -/
theorem GateInv.congr {s t : State} (hi : GateInv s)
    (hgate : (t.timing.gateOpen, t.timing.schedule) = (s.timing.gateOpen, s.timing.schedule))
    (hpend : t.banks.pend = .shipped → s.banks.pend = .shipped) : GateInv t := by
  obtain ⟨hg, hs⟩ := Prod.mk.inj hgate
  exact hi.move (.inl ⟨hg, by rw [hs]⟩) fun h => .inl (hpend h)

theorem GateInv.frameStart {s : State} (hi : GateInv s) : GateInv s.frameStart := by
  obtain ⟨hcommit, hlate⟩ := s.frameStart_gate
  have hpend := s.frameStart_pend
  by_cases hs : s.banks.pend = .shipped
  · obtain ⟨hg, hsch⟩ := hcommit hs
    rw [if_pos hs] at hpend
    exact ⟨by simp [hg, hsch], by simp [hpend]⟩
  · rw [if_neg hs] at hpend
    exact hi.move (.inl (hlate hs)) fun h => .inl (hpend ▸ h)

theorem GateInv.internalStart {s : State} (hi : GateInv s) (next : Nat) : GateInv (s.internalStart next) := by
  unfold State.internalStart
  have hv : GateInv (State.frameStart { s with timing := { s.timing with freeRun := .running next } }) :=
    .frameStart hi
  revert hv
  generalize State.frameStart _ = v
  intro hv
  refine hv.congr (by simp) ?_
  rcases v.lossSolve_starts with h | ⟨_, _, _, _, hpend, _⟩
  · rw [h]
    exact id
  · simp [hpend]

/-- Discovery leaves gate and schedule, or enters RUN with the gate OPEN and the schedule IDLE (R97). -/
theorem State.discoverFrom_gate (s : State) (first : Nat) :
    (s.discoverFrom first).timing = s.timing
      ∨ (s.discoverFrom first).timing.gateOpen = true ∧ (s.discoverFrom first).timing.schedule = none := by
  unfold State.discoverFrom State.discoveryEnd
  split
  · exact .inl rfl
  · split
    · exact .inr ⟨rfl, rfl⟩
    · exact .inl rfl

theorem GateInv.discoverFrom {s : State} (hi : GateInv s) (first : Nat) : GateInv (s.discoverFrom first) := by
  refine hi.move ?_ fun h => .inl (by simpa using h)
  rcases s.discoverFrom_gate first with h | h
  · exact .inl (by rw [h]; exact ⟨rfl, rfl⟩)
  · exact .inr h

theorem GateInv.discoveryNext {s : State} (hi : GateInv s) : GateInv s.discoveryNext := by
  unfold State.discoveryNext
  split
  · exact hi.discoverFrom _
  · exact hi

theorem GateInv.readFollows {s : State} (hi : GateInv s) (i : Nat) (asker : ReadAsker) (claim : Bool) :
    GateInv (s.readFollows i asker claim) := by
  cases asker with
  | discovery =>
    cases claim
    · exact hi
    · exact hi.discoveryNext
  | probe => cases claim <;> exact hi
  | attention | rotation => exact hi

/-- The last band's end opens the gate and leaves no schedule; before that the schedule runs on (R91, R97). -/
theorem State.bandEnded_gate (s : State) :
    (s.bandEnded.timing.gateOpen = s.timing.gateOpen
        ∧ s.bandEnded.timing.schedule.isSome = s.timing.schedule.isSome)
      ∨ s.bandEnded.timing.gateOpen = true ∧ s.bandEnded.timing.schedule = none := by
  unfold State.bandEnded
  split
  · next c hc =>
    split
    · exact .inl ⟨rfl, by rw [hc]; rfl⟩
    · exact .inr ⟨by simp, by simp⟩
  · exact .inl ⟨rfl, rfl⟩

theorem exec_keeps_gateInv {c : Instr} {s t : State} (h : exec c s = .next t) (hi : GateInv s) : GateInv t := by
  have gate (hn : owns c .gate = false) :
      (t.timing.gateOpen, t.timing.schedule) = (s.timing.gateOpen, s.timing.schedule) := exec_keeps (p := .gate) h hn
  have pend (hn : owns c .pend = false) (ht : t.banks.pend = .shipped) : s.banks.pend = .shipped :=
    (exec_keeps (p := .pend) h hn).symm.trans ht
  have ownFrame (hc : StartsOwnFrame c) : GateInv t :=
    exec_ownFrame_keeps hc h
      (fun u _ hu => hi.congr (hu .gate nofun nofun) fun ht => (hu .pend nofun nofun).symm.trans ht)
      fun u next => .internalStart (next := next)
  cases c with
  | closeFrame record cut =>
    refine hi.congr (gate rfl) ?_
    rcases exec_closeFrame_cases h with ⟨_, rfl⟩ | ⟨_, rfl⟩ | ⟨_, _, _, r, _, rfl⟩
    · exact id
    · exact id
    · exact nofun
  | fsyncFallingEdge time held high =>
    exact exec_fsync_keeps h (fun u hu => hi.congr (hu .gate nofun nofun nofun)
      fun ht => (hu .pend nofun nofun nofun).symm.trans ht) fun u => .frameStart
  | lossTimerExpiry => exact ownFrame (.inl rfl)
  | internalFrameStart => exact ownFrame (.inr (.inl rfl))
  | setLoss p => exact ownFrame (.inr (.inr ⟨p, rfl⟩))
  | start p =>
    cases h
    split
    · refine .discoverFrom ?_ 0
      exact hi
    · exact hi
  | rearm p =>
    cases h
    split
    · dsimp only
      split
      · exact hi
      · refine .discoverFrom ?_ 0
        exact hi
    · exact hi
  | stop p =>
    cases h
    split
    · exact hi
    · exact hi
    · exact hi.move (.inr ⟨rfl, rfl⟩) nofun
    · exact hi.move (.inr ⟨rfl, rfl⟩) nofun
  | killFallingEdge held =>
    cases h
    split
    · refine hi.move (.inr ?_) nofun
      simp only [State.safetyEntry, State.post_timing]
      split <;> exact ⟨rfl, rfl⟩
    · exact hi
  | softReset p =>
    cases h
    split
    · exact hi.move (.inr ⟨rfl, rfl⟩) nofun
    · exact hi.move (.inr ⟨rfl, rfl⟩) nofun
  | powerOnReset a b k f =>
    cases h
    exact hi.move (.inr ⟨rfl, rfl⟩) nofun
  | latchDue =>
    refine hi.move (.inl ?_) fun ht => .inl (pend rfl ht)
    cases h
    split
    · next c hc =>
      split
      · exact ⟨rfl, by rw [hc]; rfl⟩
      · exact ⟨rfl, rfl⟩
    · exact ⟨rfl, rfl⟩
  | pass2Zone =>
    have hgate := gate rfl
    refine hi.move (.inl ?_) fun ht => ?_
    · obtain ⟨hg, hs⟩ := Prod.mk.inj hgate
      exact ⟨hg, by rw [hs]⟩
    · cases h
      split at ht
      · split at ht
        · obtain ⟨hv, hk⟩ := s.pass2Step.solveEnd_pend
          cases hvoid : s.solver.voided with
          | true => exact .inl ((hv hvoid).symm.trans ht)
          | false =>
            rcases hk hvoid with he | ⟨hg, _⟩
            · simp [he] at ht
            · exact .inr ((Prod.mk.inj hgate).1.trans hg)
        · exact .inl ht
      · exact .inl ht
  | levelEnding status wide =>
    have hgate := gate rfl
    refine hi.move (.inl ?_) fun ht => ?_
    · obtain ⟨hg, hs⟩ := Prod.mk.inj hgate
      exact ⟨hg, by rw [hs]⟩
    · exact (exec_levelEnding_pend h).imp (fun hp => hp.symm.trans ht) fun ⟨_, _, hg⟩ => hg
  | latchEnding errorReport wide =>
    refine hi.move ?_ fun ht => (exec_latchEnding_pend h).imp (fun hp => hp.symm.trans ht) fun ⟨_, _, hg⟩ => hg
    cases h
    split
    · dsimp only
      split
      · exact .inl ⟨rfl, rfl⟩
      · split
        · exact State.bandEnded_gate _
        · exact .inl ⟨rfl, rfl⟩
    · exact .inl ⟨rfl, rfl⟩
  | discoveryConfigEnding status wide =>
    cases h
    split
    · split
      · split
        · exact hi
        · refine .discoveryNext ?_
          exact hi
      · exact hi
    · exact hi
  | readEnding status response wide =>
    cases h
    split
    · refine .readFollows (hi.congr ?_ ?_) _ _ _
      · simp
      · simp
    · exact hi
  | _ => exact hi.congr (gate rfl) (pend rfl)

/-- Settles O57: each invariant is kept by every command that owns a part it speaks of; the others and a microsecond
with nothing to take leave those parts. -/
theorem everyStepKeepsTheSolveInStep : Obligations.EveryStepKeepsTheSolveInStep := by
  unfold Obligations.EveryStepKeepsTheSolveInStep
  constructor
  · intro s t h
    rcases step_cases h with rfl | ⟨c, rest, hc⟩
    · exact ⟨id, id, fun _ => id⟩
    · exact ⟨fun hi => exec_keeps_demandStoreInv hc hi, fun hi => exec_keeps_pendingInv hc hi,
        fun hp hi => exec_keeps_tagInv hc hp hi⟩
  · intro s t h hi
    rcases step_cases h with rfl | ⟨c, rest, hc⟩
    · exact hi
    · exact exec_keeps_gateInv hc hi

end Sys2Proof.Machine

/-! ## Settings, levels and factors stay in their ranges (O56) -/

namespace Sys2Proof.Machine

open Sys2Proof

/-! ### Settings (R49, R80, R87, R134, R147, R177) -/

theorem budgetOf_inRange {params : List Byte} {d : Domain} {b : BudgetSetting} (h : budgetOf params = some (d, b)) :
    b.budget ≤ Config.maxBudget ∧ 1 ≤ b.recovery ∧ b.recovery ≤ 4096 := by
  unfold budgetOf at h
  split at h
  · split at h
    · obtain ⟨rfl, rfl⟩ := Prod.mk.inj (Option.some.inj h)
      exact ⟨Nat.min_le_left _ _, Nat.le_max_left _ _, by simp⟩
    · cases h
  · cases h

theorem slewOf_inRange {params : List Byte} {r f : Nat} (h : slewOf params = some (r, f)) : r ≤ 4095 ∧ f ≤ 4095 := by
  unfold slewOf at h
  split at h
  · split at h
    · next hr =>
      obtain ⟨rfl, rfl⟩ := Prod.mk.inj (Option.some.inj h)
      exact hr
    · cases h
  · cases h

theorem temperatureOf_inRange {b : Byte} {t : Int} (h : temperatureOf b = some t) : -40 ≤ t ∧ t ≤ 150 := by
  unfold temperatureOf at h
  split at h
  · cases h
    omega
  · cases h

theorem derateOf_inRange {params : List Byte} {d : DerateSetting} (h : derateOf params = some d) :
    -40 ≤ d.ts ∧ d.ts < d.te ∧ d.te ≤ 150 ∧ -40 ≤ d.ta ∧ d.ta ≤ 150 ∧ d.capmin ≤ 4095 := by
  unfold derateOf at h
  split at h
  · split at h
    · next hs he ha =>
      split at h
      · next hr =>
        cases h
        exact ⟨(temperatureOf_inRange hs).1, hr.2, (temperatureOf_inRange he).2, (temperatureOf_inRange ha).1,
          (temperatureOf_inRange ha).2, hr.1⟩
      · cases h
    · cases h
  · cases h

theorem scanOf_inRange {params : List Byte} {g : ScanSetting} (h : scanOf params = some g) :
    1 ≤ g.bands ∧ g.bands ≤ 16 ∧ g.base ≤ 8000 ∧ g.step ≤ 2000 := by
  unfold scanOf at h
  split at h
  · split at h
    · next hr =>
      cases h
      exact hr
    · cases h
  · cases h

theorem lossOf_inRange {params : List Byte} {g : LossSetting} (h : lossOf params = some g) :
    1 ≤ g.steps ∧ g.steps ≤ 16 ∧ g.level ≤ 4095 := by
  unfold lossOf at h
  split at h
  · cases h
    exact ⟨Nat.le_max_left _ _, by simp, Nat.min_le_left _ _⟩
  · cases h

theorem linkOf_inRange {params : List Byte} {k : LinkSetting} (h : linkOf params = some k) :
    1 ≤ k.interval ∧ k.interval ≤ 15 := by
  unfold linkOf at h
  split at h
  · split at h
    · next hr =>
      cases h
      exact hr.2.2
    · cases h
  · cases h

/-- A SET LOSS leaves the loss settings or stores those that it carries (R80). -/
theorem exec_setLoss_loss {params : List Byte} {s t : State} (h : exec (.setLoss params) s = .next t) :
    t.sup.loss = s.sup.loss ∨ lossOf params = some t.sup.loss := by
  cases h
  split
  · next g hg =>
    dsimp only
    split
    · split
      · exact .inr (by simpa using hg)
      · exact .inr hg
    · exact .inr hg
  · exact .inl rfl

/-- The settings alone bear on it; those of SET LOSS may be others in their ranges. -/
theorem SettingsInv.congr {s t : State} (hi : SettingsInv s)
    (hp : ∀ p ∈ [Part.budgets, .slew, .derate, .scan, .linkSettings], t.part p = s.part p)
    (hl : t.sup.loss = s.sup.loss ∨ 1 ≤ t.sup.loss.steps ∧ t.sup.loss.steps ≤ 16 ∧ t.sup.loss.level ≤ 4095) :
    SettingsInv t := by
  have hb : t.sup.budgets = s.sup.budgets := hp .budgets (by simp)
  obtain ⟨hrise, hfall⟩ := Prod.mk.inj (hp .slew (by simp))
  have hd : t.sup.derate = s.sup.derate := hp .derate (by simp)
  have hg : t.sup.scan = s.sup.scan := hp .scan (by simp)
  obtain ⟨_, hlink⟩ := Prod.mk.inj (hp .linkSettings (by simp))
  obtain ⟨_, hk⟩ := Prod.mk.inj hlink
  obtain ⟨hbud, hris, hfal, hder, hscan, hloss, hpoll⟩ := hi
  unfold SettingsInv
  rw [hb, hrise, hfall, hd, hg, hk]
  exact ⟨hbud, hris, hfal, hder, hscan, hl.elim (fun h => h ▸ hloss) id, hpoll⟩

theorem exec_keeps_settingsInv {c : Instr} {s t : State} (h : exec c s = .next t) (hi : SettingsInv s) :
    SettingsInv t := by
  cases c with
  | setBudget params =>
    cases h
    split
    · next d b hb =>
      obtain ⟨hbud, hrest⟩ := hi
      refine ⟨fun x => ?_, hrest⟩
      have hnew := budgetOf_inRange hb
      have hold := hbud x
      simp only [State.result_sup, PerDomain.get_set]
      split <;> assumption
    · exact hi
  | setSlew params =>
    cases h
    split
    · next r f hs =>
      obtain ⟨hbud, _, _, hrest⟩ := hi
      exact ⟨hbud, (slewOf_inRange hs).1, (slewOf_inRange hs).2, hrest⟩
    · exact hi
  | setDerate params =>
    cases h
    split
    · next d hd =>
      obtain ⟨hbud, hrise, hfall, _, hrest⟩ := hi
      exact ⟨hbud, hrise, hfall, derateOf_inRange hd, hrest⟩
    · exact hi
  | setScan params =>
    cases h
    split
    · next g hg =>
      obtain ⟨hbud, hrise, hfall, hder, _, hrest⟩ := hi
      exact ⟨hbud, hrise, hfall, hder, scanOf_inRange hg, hrest⟩
    · exact hi
  | setLoss params =>
    exact hi.congr (fun p hp => exec_keeps h (by fin_cases hp <;> rfl))
      ((exec_setLoss_loss h).imp_right lossOf_inRange)
  | setLink params =>
    cases h
    split
    · next k hk =>
      split
      · obtain ⟨hbud, hrise, hfall, hder, hscan, hloss, _⟩ := hi
        exact ⟨hbud, hrise, hfall, hder, hscan, hloss, linkOf_inRange hk⟩
      · exact hi
    · exact hi
  | powerOnReset a b k f =>
    cases h
    simp [SettingsInv, SupervisorPort.reset, Link.reset]
  | _ => exact hi.congr (fun p hp => exec_keeps h (by fin_cases hp <;> rfl)) (.inl (exec_keeps (p := .loss) h rfl))

end Sys2Proof.Machine

namespace Sys2Proof.Machine

open Sys2Proof

/-! ### The arithmetic of the solve -/

/-- A calibrated level is a level (R32). -/
theorem calibrate_le (demand gain : Nat) : calibrate demand gain ≤ 4095 := Nat.min_le_left _ _

theorem slewTo_le {c prev ru rd n : Nat} (hc : c ≤ n) (hp : prev ≤ n) : slewTo c prev ru rd ≤ n := by
  unfold slewTo
  split
  · omega
  · split <;> omega

/-- A slewed level is a level (R34). -/
theorem slewStage_le {p : SolveParams} {c prev : Nat} (hc : c ≤ 4095) (hp : prev ≤ 4095) :
    slewStage p c prev ≤ 4095 := by
  unfold slewStage
  split
  · exact hc
  · exact slewTo_le hc hp

/-- A factor of at most 4096 raises no level (R38). -/
theorem scaleLevel_le {h k : Nat} (hk : k ≤ 4096) : scaleLevel h k ≤ h := by
  unfold scaleLevel
  exact Nat.div_le_of_le_mul (by nlinarith)

/-- The code and the residual of a level (R39). -/
theorem dither_le (a r : Nat) : (dither a r).1 ≤ 1023 ∧ (dither a r).2 ≤ 3 := by
  unfold dither
  split
  · exact ⟨le_rfl, by omega⟩
  · dsimp only
    omega

/-- Target factors are at most 4096 (R54, R55). -/
theorem targetFactors_le (beff fd nd : Nat) :
    (targetFactors beff fd nd).kn ≤ 4096 ∧ (targetFactors beff fd nd).kf ≤ 4096 := by
  unfold targetFactors
  split
  · exact ⟨le_rfl, le_rfl⟩
  · split
    · exact ⟨Nat.div_le_of_le_mul (Nat.mul_le_mul_right _ (by omega)), le_rfl⟩
    · refine ⟨Nat.zero_le _, ?_⟩
      dsimp only
      split
      · exact le_rfl
      · exact Nat.div_le_of_le_mul (Nat.mul_le_mul_right _ (by omega))

/-- Factors are at most 4096 (R37, R56). -/
theorem domainFactors_le (i : FactorInput) (s : DomainSums) :
    (domainFactors i s).kn ≤ 4096 ∧ (domainFactors i s).kf ≤ 4096 := by
  obtain ⟨hn, hf⟩ := targetFactors_le (i.budget - s.carried) s.focus s.nonFocus
  exact ⟨(Nat.min_le_left _ _).trans hn, (Nat.min_le_left _ _).trans hf⟩

/-! ### Banks (R40) -/

theorem ZoneRecord.inRange_reset : ZoneRecord.reset.inRange := by simp [ZoneRecord.inRange, ZoneRecord.reset]

theorem Bank.inRange_reset (t : Tag) : (Bank.reset t).inRange :=
  ⟨fun _ => ZoneRecord.inRange_reset, fun d => by simp [Bank.reset, DomainRecord.reset]⟩

/-- The records alone bear on a bank's ranges. -/
theorem Bank.inRange.congr {a b : Bank} (h : a.inRange) (hz : b.zones = a.zones) (hd : b.domains = a.domains) :
    b.inRange := by
  obtain ⟨haz, had⟩ := h
  refine ⟨fun z => ?_, fun d => ?_⟩
  · rw [Bank.zone, hz]
    exact haz z
  · rw [hd]
    exact had d

theorem Bank.inRange.putZone {b : Bank} (h : b.inRange) (i : Nat) {r : ZoneRecord} (hr : r.inRange) :
    (b.putZone i r).inRange := by
  refine ⟨fun z => ?_, h.2⟩
  rw [Bank.zone_putZone]
  split
  · exact hr
  · exact h.1 z

/-- What a commit makes of the record of a zone (R77, R78). -/
theorem State.committedBank_zone (s : State) (z : Nat) :
    s.committedBank.zone z = s.banks.pendingBank.zone z
      ∨ s.committedBank.zone z = (s.banks.active.zone z).carryForward (s.banks.pendingBank.zone z) := by
  have h : s.committedBank.zone z =
      if z < s.zone.n then
        if s.drivers.failedZone s.zone.cols z then (s.banks.active.zone z).carryForward (s.banks.pendingBank.zone z)
        else s.banks.pendingBank.zone z
      else s.banks.pendingBank.zone z := Store.get_update _ _ _ _ _
  rw [h]
  split
  · split
    · exact .inr rfl
    · exact .inl rfl
  · exact .inl rfl

/-- A commit takes the factors and the budget of a domain from the pending record (R77). -/
theorem State.committedBank_domain (s : State) (d : Domain) :
    (s.committedBank.domains.get d).kn = (s.banks.pendingBank.domains.get d).kn
      ∧ (s.committedBank.domains.get d).kf = (s.banks.pendingBank.domains.get d).kf
      ∧ (s.committedBank.domains.get d).budget = (s.banks.pendingBank.domains.get d).budget := by
  simp only [State.committedBank, PerDomain.get_of]
  split <;> exact ⟨rfl, rfl, rfl⟩

theorem State.committedBank_inRange {s : State} (ha : s.banks.active.inRange) (hp : s.banks.pendingBank.inRange) :
    s.committedBank.inRange := by
  refine ⟨fun z => ?_, fun d => ?_⟩
  · rcases s.committedBank_zone z with h | h
    · rw [h]
      exact hp.1 z
    · rw [h]
      exact ha.1 z
  · obtain ⟨hn, hf, _⟩ := s.committedBank_domain d
    rw [hn, hf]
    exact hp.2 d

/-- The flush does not bear on what a commit makes ACTIVE. -/
@[simp] theorem State.flush_committedBank (s : State) : s.flush.committedBank = s.committedBank := by
  simp [State.committedBank, State.committedZones]

/-- The banks after a frame start (R76, R77). -/
theorem State.frameStart_banks (s : State) :
    s.frameStart.banks =
      if s.banks.pend = .shipped then
        { s.banks with active := s.committedBank, pendingBank := s.banks.active, pend := .empty }
      else s.banks := by
  rcases s.frameStart_cases with ⟨hp, h⟩ | ⟨hp, h⟩
  · simp [h, hp]
  · simp [h, hp]

/-! ### Levels, codes, residuals and factors (R37, R40, R80) -/

/-- The record that pass 1 leaves is in its ranges (R30 to R35). -/
theorem State.pass1Record_inRange {s : State} (ha : s.banks.active.inRange) (hp : s.banks.pendingBank.inRange)
    (z : Nat) : (s.pass1Record z).inRange := by
  unfold State.pass1Record
  split
  · exact ha.1 z
  · exact ZoneRecord.inRange_reset
  · have hs : s.slewedFor z ≤ 4095 := slewStage_le (calibrate_le _ _) (ha.1 z).2.1
    exact ⟨(Nat.min_le_left _ _).trans hs, hs, (hp.1 z).2.2⟩

theorem Factors.tier_le {f : Factors} (h : f.kn ≤ 4096 ∧ f.kf ≤ 4096) (focus : Bool) : f.tier focus ≤ 4096 := by
  unfold Factors.tier
  split
  · exact h.2
  · exact h.1

/-- The record that pass 2 leaves is in its ranges (R38, R39). -/
theorem State.pass2Zone_inRange {s : State} (hp : s.banks.pendingBank.inRange)
    (hf : ∀ d, (s.solver.factors.get d).kn ≤ 4096 ∧ (s.solver.factors.get d).kf ≤ 4096) (z : Nat) :
    (s.pass2Zone z).1.inRange := by
  unfold State.pass2Zone
  dsimp only
  split
  · split
    · exact hp.1 z
    · next e _ _ =>
      obtain ⟨hc, hr⟩ := dither_le (scaleLevel (s.banks.pendingBank.zone z).level
        ((s.solver.factors.get e.domain).tier (s.banks.pendingBank.zone z).focus)) (s.banks.active.zone z).residual
      exact ⟨(scaleLevel_le (Factors.tier_le (hf e.domain) _)).trans (hp.1 z).1, (hp.1 z).2.1, hr, hc⟩
  · exact hp.1 z

/-- A loss solve copies the loss level and leaves factors, factor inputs and the other settings (R25, R27). -/
theorem State.lossSolve_solver (s : State) :
    s.lossSolve.solver.factors = s.solver.factors ∧ s.lossSolve.solver.inputs = s.solver.inputs
      ∧ (s.lossSolve.solver.params = s.solver.params ∨ s.lossSolve.solver.params.lossLevel = s.sup.loss.level) := by
  rcases s.lossSolve_cases with h | ⟨_, _, h⟩
  · rw [h]
    exact ⟨rfl, rfl, .inl rfl⟩
  · rw [h]
    split <;> exact ⟨rfl, rfl, .inr rfl⟩

theorem RangeInv.frameStart {s : State} (hi : RangeInv s) : RangeInv s.frameStart := by
  obtain ⟨ha, hp, hrest⟩ := hi
  unfold RangeInv
  rw [s.frameStart_banks, show s.frameStart.solver = s.solver by simp, show s.frameStart.sup.loss = s.sup.loss by simp]
  split
  · exact ⟨State.committedBank_inRange ha hp, ha, hrest⟩
  · exact ⟨ha, hp, hrest⟩

theorem RangeInv.lossSolve {s : State} (hi : RangeInv s) : RangeInv s.lossSolve := by
  obtain ⟨ha, hp, hf, hl, hloss⟩ := hi
  obtain ⟨hz, hd, _⟩ := s.lossSolve_pending
  obtain ⟨hfac, _, hpar⟩ := s.lossSolve_solver
  refine ⟨by simpa using ha, hp.congr hz hd, by rw [hfac]; exact hf, ?_, by simpa using hloss⟩
  rcases hpar with h | h <;> rw [h] <;> assumption

theorem RangeInv.internalStart {s : State} (hi : RangeInv s) (next : Nat) : RangeInv (s.internalStart next) :=
  .lossSolve (.frameStart hi)

/-- The banks, the solver and the loss level alone bear on it. -/
theorem RangeInv.congr {s t : State} (hi : RangeInv s) (ha : t.banks.active = s.banks.active)
    (hp : t.banks.pendingBank = s.banks.pendingBank) (hv : t.solver = s.solver)
    (hl : t.sup.loss = s.sup.loss ∨ t.sup.loss.level ≤ 4095) : RangeInv t := by
  obtain ⟨hai, hpi, hf, hpar, hloss⟩ := hi
  unfold RangeInv
  rw [ha, hp, hv]
  exact ⟨hai, hpi, hf, hpar, hl.elim (fun h => h ▸ hloss) id⟩

/-- What a command that neither draws a map nor starts a frame leaves of banks and solver: ACTIVE as it stood or
cleared, the pending records, and what the solve has copied and computed (R71, R75). -/
structure KeepsMap (s t : State) : Prop where
  active : t.banks.active = s.banks.active ∨ ∃ tag, t.banks.active = Bank.reset tag
  zones : t.banks.pendingBank.zones = s.banks.pendingBank.zones
  domains : t.banks.pendingBank.domains = s.banks.pendingBank.domains
  params : t.solver.params = s.solver.params
  inputs : t.solver.inputs = s.solver.inputs
  factors : t.solver.factors = s.solver.factors

theorem KeepsMap.of_eq {s t : State} (hb : t.banks = s.banks) (hv : t.solver = s.solver) : KeepsMap s t :=
  ⟨.inl (by rw [hb]), by rw [hb], by rw [hb], by rw [hv], by rw [hv], by rw [hv]⟩

theorem KeepsMap.trans {s t u : State} (h : KeepsMap s t) (h' : KeepsMap t u) : KeepsMap s u := by
  refine ⟨?_, h'.zones.trans h.zones, h'.domains.trans h.domains, h'.params.trans h.params, h'.inputs.trans h.inputs,
    h'.factors.trans h.factors⟩
  rcases h'.active with ha | ha
  · rw [ha]
    exact h.active
  · exact .inr ha

theorem State.keepsMap_discoverFrom (s : State) (first : Nat) : KeepsMap s (s.discoverFrom first) := by
  unfold State.discoverFrom State.discoveryEnd
  split
  · exact .of_eq rfl rfl
  · split
    · exact ⟨.inr ⟨_, rfl⟩, rfl, rfl, rfl, rfl, rfl⟩
    · exact .of_eq rfl rfl

theorem State.keepsMap_enterDiscovery (s : State) : KeepsMap s s.enterDiscovery :=
  by
  refine KeepsMap.trans ?_ (State.keepsMap_discoverFrom _ 0)
  exact .of_eq rfl rfl

theorem State.keepsMap_discoveryNext (s : State) : KeepsMap s s.discoveryNext := by
  unfold State.discoveryNext
  split
  · exact s.keepsMap_discoverFrom _
  · exact .of_eq rfl rfl

theorem State.keepsMap_readFollows (s : State) (i : Nat) (asker : ReadAsker) (claim : Bool) :
    KeepsMap s (s.readFollows i asker claim) := by
  cases asker with
  | discovery =>
    cases claim
    · exact .of_eq rfl rfl
    · exact s.keepsMap_discoveryNext
  | probe => cases claim <;> exact .of_eq rfl rfl
  | attention | rotation => exact .of_eq rfl rfl

/-- The commands that draw a map or start a frame, and power-on reset. -/
def drawsMap : Instr → Bool
  | .closeFrame _ _ | .fsyncFallingEdge _ _ _ | .lossTimerExpiry | .internalFrameStart | .setLoss _
  | .powerOnReset _ _ _ _ | .pass1Zone | .factorStep | .pass2Zone => true
  | _ => false

theorem exec_keepsMap {c : Instr} {s t : State} (h : exec c s = .next t) (hc : drawsMap c = false) : KeepsMap s t := by
  have kept (ha : owns c .active = false) (hp : owns c .pendingBank = false) (hv : owns c .solver = false) :
      KeepsMap s t := by
    have hsolver : t.solver = s.solver := exec_keeps (p := .solver) h hv
    have hpending : t.banks.pendingBank = s.banks.pendingBank := exec_keeps (p := .pendingBank) h hp
    exact ⟨.inl (exec_keeps (p := .active) h ha), by rw [hpending], by rw [hpending], by rw [hsolver],
      by rw [hsolver], by rw [hsolver]⟩
  cases c with
  | closeFrame _ _ | fsyncFallingEdge _ _ _ | lossTimerExpiry | internalFrameStart | setLoss _
  | powerOnReset _ _ _ _ | pass1Zone | factorStep | pass2Zone => cases hc
  | start p =>
    cases h
    split
    · exact KeepsMap.trans (t := s.result .ok) (.of_eq rfl rfl) (State.keepsMap_enterDiscovery _)
    · exact .of_eq rfl rfl
  | rearm p =>
    cases h
    split
    · have cleared : KeepsMap s { s with banks := s.banks.clearActive } := ⟨.inr ⟨_, rfl⟩, rfl, rfl, rfl, rfl, rfl⟩
      dsimp only
      split
      · exact cleared.trans (.of_eq rfl rfl)
      · refine cleared.trans (KeepsMap.trans ?_ (State.keepsMap_enterDiscovery _))
        exact .of_eq rfl rfl
    · exact .of_eq rfl rfl
  | stop p =>
    cases h
    split <;> exact ⟨.inl rfl, rfl, rfl, rfl, rfl, rfl⟩
  | killFallingEdge held =>
    cases h
    split <;> exact ⟨.inl rfl, rfl, rfl, rfl, rfl, rfl⟩
  | softReset p =>
    cases h
    split <;> exact ⟨.inr ⟨_, rfl⟩, rfl, rfl, rfl, rfl, rfl⟩
  | discoveryConfigEnding status wide =>
    cases h
    split
    · split
      · split
        · exact .of_eq rfl rfl
        · refine KeepsMap.trans ?_ (State.keepsMap_discoveryNext _)
          exact .of_eq rfl rfl
      · exact .of_eq rfl rfl
    · exact .of_eq rfl rfl
  | readEnding status response wide =>
    cases h
    split
    · refine KeepsMap.trans ?_ (State.keepsMap_readFollows _ _ _ _)
      exact .of_eq (by simp) (by simp)
    · exact .of_eq rfl rfl
  | _ => exact kept rfl rfl rfl

theorem RangeInv.keepsMap {s t : State} (hi : RangeInv s) (hm : KeepsMap s t) (hl : t.sup.loss = s.sup.loss) :
    RangeInv t := by
  obtain ⟨ha, hp, hf, hpar, hloss⟩ := hi
  unfold RangeInv
  rw [hm.factors, hm.params, hl]
  refine ⟨?_, hp.congr hm.zones hm.domains, hf, hpar, hloss⟩
  rcases hm.active with h | ⟨tag, h⟩
  · rwa [h]
  · rw [h]
    exact Bank.inRange_reset tag

theorem RangeInv.pass2Step {s : State} (hi : RangeInv s) : RangeInv s.pass2Step := by
  obtain ⟨ha, hp, hf, hrest⟩ := hi
  exact ⟨ha, hp.putZone _ (State.pass2Zone_inRange hp hf _), hf, hrest⟩

/-- A bank with the domain records that a solve writes (R40, R60). -/
theorem Bank.inRange.withDomains {b : Bank} (h : b.inRange) {v : Solver}
    (hf : ∀ d, (v.factors.get d).kn ≤ 4096 ∧ (v.factors.get d).kf ≤ 4096) :
    ({ b with domains := v.domainRecords } : Bank).inRange :=
  ⟨h.1, fun d => by simpa [Solver.domainRecords] using hf d⟩

theorem RangeInv.beginRound {s : State} (hi : RangeInv s) : RangeInv s.beginRound :=
  hi.congr (by simp) (by simp) (by simp) (.inl (by simp))

theorem RangeInv.solveEnd {s : State} (hi : RangeInv s) : RangeInv s.solveEnd := by
  obtain ⟨ha, hp, hf, hrest⟩ := hi
  unfold State.solveEnd
  dsimp only
  split
  · exact ⟨ha, hp.withDomains hf, hf, hrest⟩
  · refine .beginRound ?_
    exact ⟨ha, hp.withDomains hf, hf, hrest⟩

theorem exec_keeps_rangeInv {c : Instr} {s t : State} (h : exec c s = .next t) (hi : RangeInv s) : RangeInv t := by
  have ownFrame (hc : StartsOwnFrame c) (hl : t.sup.loss = s.sup.loss ∨ t.sup.loss.level ≤ 4095) : RangeInv t :=
    exec_ownFrame_keeps hc h
      (fun u hul hu => hi.congr (hu .active nofun nofun) (hu .pendingBank nofun nofun) (hu .solver nofun nofun)
        (by rw [hul]; exact hl))
      fun u next => .internalStart (next := next)
  cases c with
  | closeFrame record cut =>
    rcases exec_closeFrame_cases h with ⟨_, rfl⟩ | ⟨_, rfl⟩ | ⟨_, _, _, r, _, rfl⟩
    · exact hi
    · exact hi
    · obtain ⟨ha, hp, hf, _, hloss⟩ := hi
      exact ⟨by simpa using ha, hp.congr (by simp [State.startSolve]) (by simp [State.startSolve]),
        by simpa [State.startSolve] using hf, by simp [State.startSolve, State.pictureParams], by simpa using hloss⟩
  | fsyncFallingEdge time held high =>
    exact exec_fsync_keeps h (fun u hu => hi.congr (hu .active nofun nofun nofun) (hu .pendingBank nofun nofun nofun)
      (hu .solver nofun nofun nofun) (.inl (hu .loss nofun nofun nofun))) fun u => .frameStart
  | lossTimerExpiry => exact ownFrame (.inl rfl) (.inl (exec_keeps (p := .loss) h rfl))
  | internalFrameStart => exact ownFrame (.inr (.inl rfl)) (.inl (exec_keeps (p := .loss) h rfl))
  | setLoss p =>
    exact ownFrame (.inr (.inr ⟨p, rfl⟩)) ((exec_setLoss_loss h).imp_right fun hg => (lossOf_inRange hg).2.2)
  | powerOnReset a b k f =>
    cases h
    obtain ⟨_, hp, _⟩ := hi
    exact ⟨Bank.inRange_reset _, hp, fun d => by simp [Solver.reset], by simp [Solver.reset],
      by simp [SupervisorPort.reset]⟩
  | pass1Zone =>
    cases h
    split
    · obtain ⟨ha, hp, hrest⟩ := hi
      exact ⟨ha, hp.putZone _ (State.pass1Record_inRange ha hp _), hrest⟩
    · exact hi
  | factorStep =>
    cases h
    split
    · obtain ⟨ha, hp, _, hrest⟩ := hi
      exact ⟨ha, hp, fun d => by simpa using domainFactors_le _ _, hrest⟩
    · exact hi
  | pass2Zone =>
    cases h
    split
    · split
      · exact hi.pass2Step.solveEnd
      · exact hi.pass2Step
    · exact hi
  | _ => exact hi.keepsMap (exec_keepsMap h rfl) (exec_keeps (p := .loss) h rfl)

end Sys2Proof.Machine

/-! ## Driver entries stay in their ranges, inside the grid and apart (O56) -/

namespace Sys2Proof.Machine

open Sys2Proof

/-! ### Entries that follow entries -/

/-- An entry with the identity of another: its address, tile and current setting, and counts in their ranges where the
other's are. -/
structure DriverEntry.Follows (e f : DriverEntry) : Prop where
  addr : f.addr = e.addr
  tile : f.tile = e.tile
  pwm : f.pwm = e.pwm
  current : f.current = e.current
  misses : e.misses ≤ Config.missLimit → f.misses ≤ Config.missLimit
  attempts : e.attempts ≤ Config.attempts → f.attempts ≤ Config.attempts

theorem DriverEntry.Follows.refl (e : DriverEntry) : e.Follows e := ⟨rfl, rfl, rfl, rfl, id, id⟩

theorem DriverEntry.Follows.trans {e f g : DriverEntry} (h : e.Follows f) (h' : f.Follows g) : e.Follows g :=
  ⟨h'.addr.trans h.addr, h'.tile.trans h.tile, h'.pwm.trans h.pwm, h'.current.trans h.current, h'.misses ∘ h.misses,
    h'.attempts ∘ h.attempts⟩

theorem DriverEntry.Follows.inRange {e f : DriverEntry} (h : e.Follows f) : f.inRange = e.inRange := by
  simp [DriverEntry.inRange, h.addr, h.tile, h.pwm, h.current]

theorem DriverEntry.follows_unprobed (e : DriverEntry) : e.Follows e.unprobed :=
  ⟨rfl, rfl, rfl, rfl, fun _ => Nat.zero_le _, fun _ => Nat.zero_le _⟩

theorem DriverEntry.follows_roundCleared (e : DriverEntry) : e.Follows e.roundCleared :=
  ⟨rfl, rfl, rfl, rfl, id, fun _ => Nat.zero_le _⟩

theorem DriverEntry.follows_committed (e : DriverEntry) : e.Follows e.committed := by
  unfold DriverEntry.committed
  split
  · split
    · next h => exact ⟨rfl, rfl, rfl, rfl, fun _ => Nat.le_of_lt h, fun _ => Nat.zero_le _⟩
    · exact ⟨rfl, rfl, rfl, rfl, fun _ => le_rfl, fun _ => Nat.zero_le _⟩
  · exact ⟨rfl, rfl, rfl, rfl, id, fun _ => Nat.zero_le _⟩

theorem DriverEntry.follows_attempted (e : DriverEntry) : e.Follows e.attempted :=
  ⟨rfl, rfl, rfl, rfl, id, fun _ => e.attempted_cases.2⟩

/-- Every present entry of the table follows the entry that its index had. -/
def DriverTable.Follows (d d' : DriverTable) : Prop :=
  ∀ i f, d'.entryAt i = some f → ∃ e, d.entryAt i = some e ∧ e.Follows f

theorem DriverTable.Follows.refl (d : DriverTable) : d.Follows d := fun _ f hf => ⟨f, hf, .refl f⟩

theorem DriverTable.Follows.trans {a b c : DriverTable} (h : a.Follows b) (h' : b.Follows c) : a.Follows c := by
  intro i g hg
  obtain ⟨f, hf, hfg⟩ := h' i g hg
  obtain ⟨e, he, hef⟩ := h i f hf
  exact ⟨e, he, hef.trans hfg⟩

/-- The entries alone bear on it. -/
theorem DriverTable.Follows.congr {a b c : DriverTable} (h : a.Follows b) (hc : c.entries = b.entries) :
    a.Follows c := by
  intro i f hf
  rw [DriverTable.entryAt, hc] at hf
  exact h i f hf

theorem DriverTable.follows_mapEntries (d : DriverTable) {f : DriverEntry → DriverEntry}
    (hf : ∀ e : DriverEntry, e.Follows (f e)) :
    d.Follows (d.mapEntries f) := by
  intro i g hg
  rw [DriverTable.entryAt_mapEntries, Option.map_eq_some_iff] at hg
  obtain ⟨e, he, rfl⟩ := hg
  exact ⟨e, he, hf e⟩

theorem DriverTable.follows_put {d : DriverTable} {i : Nat} {e f : DriverEntry} (he : d.entryAt i = some e)
    (hf : e.Follows f) : d.Follows (d.put i (some f)) := by
  intro j g hg
  rw [DriverTable.entryAt_put] at hg
  split at hg
  · next hj =>
    cases hg
    exact ⟨e, hj ▸ he, hf⟩
  · exact ⟨g, hg, .refl g⟩

/-! ### The operations on the table -/

theorem DriverTable.follows_endRound (d : DriverTable) : d.Follows d.endRound :=
  (d.follows_mapEntries DriverEntry.follows_roundCleared).congr rfl

theorem DriverTable.follows_openRound (d : DriverTable) : d.Follows d.openRound := by
  refine DriverTable.Follows.congr (d.follows_mapEntries fun e => ?_) rfl
  refine ⟨rfl, rfl, rfl, rfl, id, fun h => ?_⟩
  dsimp only
  split
  · exact Nat.zero_le _
  · exact h

theorem DriverTable.follows_failEntry {d : DriverTable} {i : Nat} {e : DriverEntry} (he : d.entryAt i = some e)
    (list : List Nat) : d.Follows (d.failEntry i e list) :=
  (DriverTable.follows_put he (f := { e.attempted with state := .failing, failed := true })
    ⟨rfl, rfl, rfl, rfl, id, e.follows_attempted.attempts⟩).congr rfl

theorem DriverTable.follows_levelEnded (d : DriverTable) (i : Nat) (x : Ending) : d.Follows (d.levelEnded i x) := by
  unfold DriverTable.levelEnded
  split
  · next e list he _ =>
    have attempted : d.Follows (d.put i (some e.attempted)) := DriverTable.follows_put he e.follows_attempted
    split
    · exact (DriverTable.follows_put he (f := { e.attempted with
          misses := 0, state := if e.state = .failing then .reachable else e.state })
        ⟨rfl, rfl, rfl, rfl, fun _ => Nat.zero_le _, e.follows_attempted.attempts⟩).congr rfl
    · split
      · exact attempted.congr rfl
      · exact DriverTable.follows_failEntry he list
    · split
      · exact attempted
      · exact DriverTable.follows_failEntry he list
  · exact .refl d

theorem DriverTable.follows_setState (d : DriverTable) (i : Nat) (x : DriverState) : d.Follows (d.setState i x) := by
  unfold DriverTable.setState
  split
  · next e he => exact DriverTable.follows_put he ⟨rfl, rfl, rfl, rfl, id, id⟩
  · exact .refl d

theorem DriverTable.follows_recover (d : DriverTable) (i : Nat) (p : PendState) : d.Follows (d.recover i p) := by
  unfold DriverTable.recover
  split
  · next e he =>
    exact (DriverTable.follows_put he (f := { e with state := .reachable, misses := 0, attempts := 0 })
      ⟨rfl, rfl, rfl, rfl, fun _ => Nat.zero_le _, fun _ => Nat.zero_le _⟩).congr rfl
  · exact .refl d

/-! ### The operations of the whole device -/

theorem State.follows_frameStart (s : State) : s.drivers.Follows s.frameStart.drivers := by
  have hd : s.flush.drivers = s.drivers := by simp
  rcases s.frameStart_cases with ⟨_, h⟩ | ⟨_, h⟩
  · rw [h, ← hd]
    exact (DriverTable.follows_mapEntries _ DriverEntry.follows_committed).congr rfl
  · rw [h, State.raise_drivers, hd]
    exact .refl _

theorem State.follows_lossSolve (s : State) : s.drivers.Follows s.lossSolve.drivers := by
  rcases s.lossSolve_cases with h | ⟨_, _, h⟩
  · rw [h]
    exact .refl _
  · rw [h]
    split
    · exact s.drivers.follows_endRound
    · exact .refl _

theorem State.follows_internalStart (s : State) (next : Nat) : s.drivers.Follows (s.internalStart next).drivers :=
  (State.follows_frameStart { s with timing := { s.timing with freeRun := .running next } }).trans
    (State.follows_lossSolve _)

theorem State.follows_replaceWork (s : State) : s.drivers.Follows s.replaceWork.drivers := by
  unfold State.replaceWork
  split
  · split
    · exact s.drivers.follows_endRound
    · exact .refl _
  · exact .refl _

theorem State.follows_beginRound (s : State) : s.drivers.Follows s.beginRound.drivers := by
  unfold State.beginRound
  split
  · exact s.drivers.follows_openRound.congr (by simp)
  · exact .refl _

theorem State.follows_bandEnded (s : State) : s.drivers.Follows s.bandEnded.drivers := by
  unfold State.bandEnded
  split
  · split
    · exact .refl _
    · exact State.follows_beginRound { s with timing := s.timing.cancel }
  · exact .refl _

theorem State.follows_solveEnd (s : State) : s.drivers.Follows s.solveEnd.drivers := by
  unfold State.solveEnd
  dsimp only
  split
  · exact .refl _
  · exact (DriverTable.Follows.refl s.drivers).trans (State.follows_beginRound _)

theorem State.follows_enterDiscovery (s : State) : s.drivers.Follows s.enterDiscovery.drivers :=
  (s.drivers.follows_mapEntries DriverEntry.follows_unprobed).congr (by simp [State.enterDiscovery])

/-! ### The invariant (R101, R102) -/

/-- Entries that follow those of a table in its ranges, on the same grid. -/
theorem DriverInv.follow {s t : State} (hi : DriverInv s) (hgrid : t.part .grid = s.part .grid)
    (hf : s.drivers.Follows t.drivers) : DriverInv t := by
  obtain ⟨hc, hr⟩ := Prod.mk.inj hgrid
  obtain ⟨hown, hapart⟩ := hi
  refine ⟨fun i f hif => ?_, fun i j f g hif hjg hij => ?_⟩
  · obtain ⟨e, hie, hef⟩ := hf i f hif
    obtain ⟨hlt, hrange, hm, ha, hcol, hrow⟩ := hown i e hie
    rw [hef.inRange, hef.tile, hc, hr]
    exact ⟨hlt, hrange, hef.misses hm, hef.attempts ha, hcol, hrow⟩
  · obtain ⟨e, hie, hef⟩ := hf i f hif
    obtain ⟨d, hjd, hdg⟩ := hf j g hjg
    rw [hef.addr, hef.tile, hdg.addr, hdg.tile]
    exact hapart i j e d hie hjd hij

/-- The entries and the grid alone bear on it. -/
theorem DriverInv.congr {s t : State} (hi : DriverInv s) (hgrid : t.part .grid = s.part .grid)
    (he : t.drivers.entries = s.drivers.entries) : DriverInv t :=
  hi.follow hgrid ((DriverTable.Follows.refl _).congr he)

/-- A table without an entry. -/
theorem DriverInv.of_empty {t : State} (h : ∀ i, t.drivers.entryAt i = none) : DriverInv t :=
  ⟨fun i e he => by simp [h i] at he, fun i _ e _ he => by simp [h i] at he⟩

/-- Tiles that do not overlap share no zone. -/
theorem Tile.apart_of_not_overlaps {t u : Tile} (h : t.overlaps u = false) (c r : Nat) :
    ¬(t.contains c r = true ∧ u.contains c r = true) := by
  simp only [Tile.overlaps, Tile.contains, Bool.and_eq_true, decide_eq_true_eq, Bool.and_eq_false_iff,
    decide_eq_false_iff_not] at h ⊢
  omega

/-- A present load brings an entry in its ranges with its counts at 0 (R101). -/
theorem driverLoadOf_present {params : List Byte} {e : DriverEntry} (h : driverLoadOf params = some (.present e)) :
    e.inRange = true ∧ e.misses = 0 ∧ e.attempts = 0 := by
  unfold driverLoadOf at h
  split at h
  · split at h
    · cases h
    · split at h
      · split at h
        · split at h
          · dsimp only at h
            split at h
            · next hr =>
              cases h
              exact ⟨hr, rfl, rfl⟩
            · cases h
          · cases h
        · cases h
      · cases h
  · cases h

theorem entryIndexOf_lt {params : List Byte} {i : Nat} (h : entryIndexOf params = some i) : i < Config.drivers := by
  unfold entryIndexOf at h
  split at h
  · split at h
    · next hi =>
      cases h
      exact hi
    · cases h
  · cases h

/-- An entry loaded at an index, inside the grid and apart from those of the other indices (R102). -/
theorem DriverInv.load {s t : State} (hi : DriverInv s) {i : Nat} {e : DriverEntry} (hlt : i < Config.drivers)
    (hrange : e.inRange = true ∧ e.misses = 0 ∧ e.attempts = 0) (hload : s.admitsLoad i e = true)
    (hgrid : t.part .grid = s.part .grid) (ht : t.drivers.entries = (s.drivers.put i (some e)).entries) :
    DriverInv t := by
  obtain ⟨hc, hr⟩ := Prod.mk.inj hgrid
  obtain ⟨hown, hapart⟩ := hi
  have hat (j : Nat) : t.drivers.entryAt j = if j = i then some e else s.drivers.entryAt j := by
    rw [DriverTable.entryAt, ht, DriverTable.get_put]
  simp only [State.admitsLoad, Bool.and_eq_true, decide_eq_true_eq, List.all_eq_true, Prod.forall,
    DriverTable.mem_present, Bool.or_eq_true] at hload
  obtain ⟨⟨hcol, hrow⟩, hothers⟩ := hload
  have other (j : Nat) (f : DriverEntry) (hj : j ≠ i) (hf : s.drivers.entryAt j = some f) :
      e.addr ≠ f.addr ∧ ∀ c r, ¬(e.tile.contains c r = true ∧ f.tile.contains c r = true) := by
    rcases hothers j f ⟨(hown j f hf).1, hf⟩ with h | ⟨hov, haddr⟩
    · exact absurd h hj
    · exact ⟨fun h => haddr h.symm, Tile.apart_of_not_overlaps (by simpa using hov)⟩
  refine ⟨fun j f hf => ?_, fun j k f g hf hg hjk => ?_⟩
  · rw [hc, hr]
    rw [hat] at hf
    split at hf
    · next hj =>
      cases hf
      obtain ⟨hin, hm, ha⟩ := hrange
      exact ⟨hj ▸ hlt, hin, hm ▸ Nat.zero_le _, ha ▸ Nat.zero_le _, hcol, hrow⟩
    · exact hown j f hf
  · rw [hat] at hf hg
    split at hf
    · next hj =>
      cases hf
      rw [if_neg fun hk => hjk (hj.trans hk.symm)] at hg
      exact other k g (fun hk => hjk (hj.trans hk.symm)) hg
    · next hj =>
      split at hg
      · cases hg
        obtain ⟨haddr, htile⟩ := other j f hj hf
        exact ⟨haddr.symm, fun c r h => htile c r h.symm⟩
      · exact hapart j k f g hf hg hjk

theorem exec_keeps_driverInv {c : Instr} {s t : State} (h : exec c s = .next t) (hi : DriverInv s) : DriverInv t := by
  have grid (hn : owns c .grid = false) : t.part .grid = s.part .grid := exec_keeps h hn
  have follow (hf : s.drivers.Follows t.drivers) (hn : owns c .grid = false) : DriverInv t := hi.follow (grid hn) hf
  have ownFrame (hc : StartsOwnFrame c) : DriverInv t :=
    exec_ownFrame_keeps hc h (fun u _ hu => hi.congr (hu .grid nofun nofun) (hu .entries nofun nofun))
      fun u next hu => hu.follow (by simp [State.part]) (u.follows_internalStart next)
  cases c with
  | closeFrame record cut =>
    refine follow ?_ rfl
    rcases exec_closeFrame_cases h with ⟨_, rfl⟩ | ⟨_, rfl⟩ | ⟨_, _, _, r, _, rfl⟩
    · exact .refl _
    · exact .refl _
    · exact s.follows_replaceWork
  | setGrid params =>
    rcases exec_setGrid_cases h with ⟨_, rfl⟩ | ⟨_, _, _, _, rfl⟩
    · exact hi
    · exact .of_empty fun _ => rfl
  | loadDriver params =>
    cases h
    split
    · split
      · next i hidx _ =>
        refine hi.follow rfl fun j f hf => ⟨f, ?_, .refl f⟩
        simp only [State.result_drivers, DriverTable.entryAt_put] at hf
        split at hf
        · cases hf
        · exact hf
      · next i e hidx hload =>
        split
        · next hadm => exact hi.load (entryIndexOf_lt hidx) (driverLoadOf_present hload) hadm rfl rfl
        · exact hi
      · exact hi
    · exact hi
  | fsyncFallingEdge time held high =>
    exact exec_fsync_keeps h (fun u hu => hi.congr (hu .grid nofun nofun nofun) (hu .entries nofun nofun nofun))
      fun u hu => hu.follow (by simp [State.part]) u.follows_frameStart
  | lossTimerExpiry => exact ownFrame (.inl rfl)
  | internalFrameStart => exact ownFrame (.inr (.inl rfl))
  | setLoss p => exact ownFrame (.inr (.inr ⟨p, rfl⟩))
  | start p =>
    refine follow ?_ rfl
    cases h
    split
    · exact State.follows_enterDiscovery _
    · exact .refl _
  | rearm p =>
    refine follow ?_ rfl
    cases h
    split
    · dsimp only
      split
      · exact .refl _
      · exact State.follows_enterDiscovery _
    · exact .refl _
  | stop p =>
    refine follow ?_ rfl
    cases h
    split
    · exact .refl _
    · exact .refl _
    · exact s.drivers.follows_endRound.congr rfl
    · exact s.drivers.follows_endRound.congr rfl
  | killFallingEdge held =>
    refine follow ?_ rfl
    cases h
    split
    · exact s.drivers.follows_endRound.congr rfl
    · exact .refl _
  | softReset p =>
    refine follow ?_ rfl
    have unprobed : s.drivers.Follows s.softReset.drivers :=
      (s.drivers.follows_mapEntries DriverEntry.follows_unprobed).congr rfl
    cases h
    split
    · exact unprobed
    · exact unprobed.trans (s.softReset.drivers.follows_endRound.congr rfl)
  | powerOnReset a b k f =>
    cases h
    exact .of_empty fun _ => rfl
  | pass2Zone =>
    refine follow ?_ rfl
    cases h
    split
    · split
      · exact s.pass2Step.follows_solveEnd
      · exact .refl _
    · exact .refl _
  | levelEnding status wide =>
    refine follow ?_ rfl
    cases h
    split
    · next i _ _ _ _ _ _ _ =>
      split
      · exact (s.drivers.follows_levelEnded i (endingOf status)).congr (by simp)
      · exact .refl _
    · exact .refl _
  | latchEnding errorReport wide =>
    refine follow ?_ rfl
    cases h
    split
    · dsimp only
      split
      · exact .refl _
      · split
        · exact State.follows_bandEnded _
        · exact .refl _
    · exact .refl _
  | discoveryConfigEnding status wide =>
    refine follow ?_ rfl
    cases h
    split
    · next i _ _ _ _ _ _ _ _ _ =>
      split
      · split
        · exact s.drivers.follows_setState i .reachable
        · exact (s.drivers.follows_setState i .unreachable).congr (by simp)
      · exact .refl _
    · exact .refl _
  | probeConfigEnding status wide =>
    refine follow ?_ rfl
    cases h
    split
    · split
      · split
        · exact s.drivers.follows_recover _ _
        · exact (DriverTable.Follows.refl _).congr rfl
      · exact .refl _
    · exact .refl _
  | _ => exact hi.congr (grid rfl) (exec_keeps (p := .entries) h rfl)

end Sys2Proof.Machine

namespace Sys2Proof.Machine

open Sys2Proof

/-! ### The grid (R1, R2) -/

theorem exec_keeps_gridInv {c : Instr} {s t : State} (h : exec c s = .next t) (hi : GridInv s) : GridInv t := by
  have kept (hn : owns c .grid = false) : GridInv t := by
    obtain ⟨hc, hr⟩ := Prod.mk.inj (exec_keeps (p := .grid) h hn)
    unfold GridInv
    rw [hc, hr]
    exact hi
  cases c with
  | setGrid params =>
    rcases exec_setGrid_cases h with ⟨_, rfl⟩ | ⟨_, _, _, _, rfl⟩
    · exact hi
    · simp only [GridInv, State.result_zone, ZoneStore.regrid]
      omega
  | powerOnReset a b k f =>
    cases h
    simp [GridInv, ZoneStore.reset]
  | _ => exact kept rfl

/-! ### The thermal records (R143) -/

/-- The derate cap is a level (R145, R147). -/
theorem derateCap_le {d : DerateSetting} (hd : d.capmin ≤ 4095) (temp : Int) (blind : Bool) :
    derateCap d temp blind ≤ 4095 := by
  unfold derateCap
  split
  · exact hd
  · split
    · exact le_rfl
    · split
      · exact hd
      · exact Nat.sub_le _ _

/-- A valid READ reports a temperature of −40 to 150 °C (R129). -/
theorem readReportOf_temp {l : LinkStatus} {bits : List Bool} {p : ReadReport} (h : readReportOf l bits = some p) :
    -40 ≤ p.temp ∧ p.temp ≤ 150 := by
  unfold readReportOf at h
  split at h
  · cases h
  · split at h
    · next hvalid =>
      obtain ⟨_, _, _, htemp, _⟩ := hvalid
      cases h
      dsimp only
      omega
    · cases h

/-- A thermal record in its ranges (R143). -/
def ThermalRecord.InRange (r : ThermalRecord) : Prop :=
  -40 ≤ r.temp ∧ r.temp ≤ 150 ∧ r.run ≤ Config.blindRun ∧ r.cap ≤ 4095

theorem thermalInv_iff {s : State} : ThermalInv s ↔ ∀ i, (s.thermal.get .reset i).InRange := Iff.rfl

theorem ThermalRecord.inRange_reset : ThermalRecord.reset.InRange := by
  simp [ThermalRecord.InRange, ThermalRecord.reset]

theorem ThermalInv.of_empty {t : State} (h : t.thermal = ⟨[]⟩) : ThermalInv t := by
  rw [thermalInv_iff, h]
  exact fun _ => ThermalRecord.inRange_reset

/-- One record written, in its ranges. -/
theorem ThermalInv.set {s t : State} (hi : ThermalInv s) {i : Nat} {r : ThermalRecord} (hr : r.InRange)
    (ht : t.thermal = s.thermal.set .reset i r) : ThermalInv t := by
  rw [thermalInv_iff, ht] at *
  intro j
  rw [Store.get_set]
  split
  · exact hr
  · exact hi j

theorem ThermalInv.congr {s t : State} (hi : ThermalInv s) (ht : t.thermal = s.thermal) : ThermalInv t := by
  unfold ThermalInv
  rw [ht]
  exact hi

/-- The record after a valid READ (R145). -/
theorem ThermalRecord.inRange_valid (r : ThermalRecord) {d : DerateSetting} (hd : d.capmin ≤ 4095) {p : ReadReport}
    (hp : -40 ≤ p.temp ∧ p.temp ≤ 150) : (r.valid d p).InRange :=
  ⟨hp.1, hp.2, Nat.zero_le _, derateCap_le hd p.temp false⟩

/-- The record after an invalid READ (R146). -/
theorem ThermalRecord.InRange.invalid {r : ThermalRecord} (h : r.InRange) {d : DerateSetting} (hd : d.capmin ≤ 4095) :
    (r.invalid d).InRange := by
  obtain ⟨hlow, hhigh, _⟩ := h
  exact ⟨hlow, hhigh, Nat.min_le_left _ _, derateCap_le hd r.temp _⟩

/-- A READ handed on, with the temperatures that a valid one reports (R144). -/
theorem ThermalInv.handRead {s : State} (hi : ThermalInv s) (hd : s.sup.derate.capmin ≤ 4095) (i : Nat) (kept : Bool)
    {p : Option ReadReport} (hp : ∀ q, p = some q → -40 ≤ q.temp ∧ q.temp ≤ 150) :
    ThermalInv (s.handRead i kept p) := by
  unfold State.handRead
  split
  · split
    · cases p with
      | some q => exact hi.set (ThermalRecord.inRange_valid _ hd (hp q rfl)) rfl
      | none => exact hi.set (ThermalRecord.InRange.invalid (hi i) hd) rfl
    · exact hi
  · exact hi

theorem exec_keeps_thermalInv {c : Instr} {s t : State} (h : exec c s = .next t) (hset : SettingsInv s)
    (hi : ThermalInv s) : ThermalInv t := by
  have kept (hn : owns c .thermal = false) : ThermalInv t := hi.congr (exec_keeps (p := .thermal) h hn)
  cases c with
  | loadDriver params =>
    cases h
    split
    · split
      · exact hi
      · split
        · exact hi.set ThermalRecord.inRange_reset rfl
        · exact hi
      · exact hi
    · exact hi
  | ackAlert params =>
    cases h
    split
    · exact hi
    · next i _ =>
      dsimp only
      split
      · obtain ⟨hlow, hhigh, hrun, hcap⟩ := hi i
        exact hi.set (r := { s.thermal.get .reset i with state := .acknowledged }) ⟨hlow, hhigh, hrun, hcap⟩ rfl
      · exact hi
  | softReset p =>
    cases h
    split <;> exact .of_empty rfl
  | powerOnReset a b k f =>
    cases h
    exact .of_empty rfl
  | readEnding status response wide =>
    obtain ⟨_, _, _, ⟨_, _, _, _, _, hcap⟩, _⟩ := hset
    cases h
    split
    · next i _ _ _ _ kept _ =>
      have read : ThermalInv (State.handRead { s with link := s.link.finish wide } i kept
          (readReportOf status response)) := by
        refine .handRead (s := { s with link := s.link.finish wide }) ?_ hcap i kept fun q => readReportOf_temp
        exact hi
      exact read.congr (by simp)
    · exact hi
  | _ => exact kept rfl

end Sys2Proof.Machine

namespace Sys2Proof.Machine

open Sys2Proof

/-! ### The domain records (R49, R53, R60) -/

/-- A grid has at most 2,560 zones (R1). -/
theorem GridInv.n_le {s : State} (hg : GridInv s) : s.zone.n ≤ Config.maxZones := by
  obtain ⟨hc, hr, _⟩ := hg
  exact (Nat.mul_le_mul hc hr).trans le_rfl

/-- A sum over `n` zones of what is at most a level. -/
theorem sum_map_le_levels {α : Type} (l : List α) {f : α → Nat} (hf : ∀ x, f x ≤ 4095) :
    (l.map f).sum ≤ l.length * 4095 := by
  have h := List.sum_le_card_nsmul (l.map f) 4095 (by simpa using fun x _ => hf x)
  simpa using h

/-- The sum of the levels of a domain's zones on a grid (R61). -/
theorem domainLevelSum_le {d : DriverTable} {cols n : Nat} {zones : Store ZoneRecord} {dom : Domain}
    (hn : n ≤ Config.maxZones) (hz : ∀ z, (zones.get .reset z).level ≤ 4095) :
    domainLevelSum d cols n zones dom ≤ Config.maxZones * 4095 := by
  refine (sum_map_le_levels (List.range n) fun z => ?_).trans ?_
  · split
    · split
      · exact hz z
      · exact Nat.zero_le _
    · exact Nat.zero_le _
  · rw [List.length_range]
    exact Nat.mul_le_mul_right _ hn

/-- A zone counts as carried or as active, once and with its level (R29, R30). -/
theorem ZoneRecord.carriedLevel_add_activeLevel_le (r : ZoneRecord) : r.carriedLevel + r.activeLevel ≤ r.level := by
  unfold ZoneRecord.carriedLevel ZoneRecord.activeLevel
  cases r.held <;> cases r.inactive <;> simp

/-- Carried and active levels of a domain on a grid. -/
theorem State.domainSum_carried_add_active_le {s : State} (hr : RangeInv s) (hg : GridInv s) (d : Domain) :
    s.domainSum d ZoneRecord.carriedLevel 0 s.zone.n + s.domainSum d ZoneRecord.activeLevel 0 s.zone.n ≤ Config.maxZones * 4095 := by
  obtain ⟨_, ⟨hlevel, _⟩, _⟩ := hr
  unfold State.domainSum
  rw [← List.sum_map_add]
  refine (sum_map_le_levels _ fun z => ?_).trans ?_
  · have hz := (s.banks.pendingBank.zone z).carriedLevel_add_activeLevel_le.trans (hlevel z).1
    split
    · split
      · exact hz
      · exact Nat.zero_le _
    · exact Nat.zero_le _
  · rw [List.length_range', Nat.sub_zero]
    exact Nat.mul_le_mul_right _ hg.n_le

/-- What a commit needs: levels and grid in their ranges, and a SHIPPED map whose level sums fit. -/
def CommitReady (s : State) : Prop :=
  s.banks.active.inRange ∧ s.banks.pendingBank.inRange ∧ s.zone.n ≤ Config.maxZones
    ∧ (s.banks.pend = .shipped → ∀ d, (s.banks.pendingBank.domains.get d).levelSum ≤ Config.maxZones * 4095)

theorem commitReady_of_inv {s : State} (hr : RangeInv s) (hg : GridInv s) (hb : BudgetInv s) : CommitReady s := by
  have ⟨ha, hpb, _⟩ := hr
  refine ⟨ha, hpb, hg.n_le, fun hp d => ?_⟩
  obtain ⟨_, _, _, hwaiting⟩ := hb d
  rw [(hwaiting (.inr hp)).1]
  exact s.domainSum_carried_add_active_le hr hg d

/-- The level sums that a commit makes ACTIVE (R61, R77). -/
theorem CommitReady.committed {s : State} (hc : CommitReady s) (hp : s.banks.pend = .shipped) (d : Domain) :
    (s.committedBank.domains.get d).levelSum ≤ Config.maxZones * 4095 := by
  obtain ⟨ha, hpb, hn, hsum⟩ := hc
  simp only [State.committedBank, PerDomain.get_of]
  split
  · exact domainLevelSum_le hn fun z => ((State.committedBank_inRange ha hpb).1 z).1
  · exact hsum hp d

/-- The records of the banks and the factor inputs alone bear on it. -/
theorem DomainInv.congr {s t : State} (hi : DomainInv s) (ha : t.banks.active.domains = s.banks.active.domains)
    (hp : t.banks.pendingBank.domains = s.banks.pendingBank.domains) (hv : t.solver.inputs = s.solver.inputs) :
    DomainInv t := by
  unfold DomainInv
  rw [ha, hp, hv]
  exact hi

theorem DomainInv.keepsMap {s t : State} (hi : DomainInv s) (hm : KeepsMap s t) : DomainInv t := by
  rcases hm.active with ha | ⟨tag, ha⟩
  · exact hi.congr (by rw [ha]) hm.domains hm.inputs
  · intro d
    obtain ⟨_, _, hrest⟩ := hi d
    rw [ha, hm.domains, hm.inputs]
    exact ⟨by simp [Bank.reset, DomainRecord.reset], by simp [Bank.reset, DomainRecord.reset], hrest⟩

/-- A frame start, of the device's own or at an edge, on records in their ranges with a map ready to commit. -/
theorem DomainInv.frameStart {s : State} (h : DomainInv s ∧ CommitReady s) :
    DomainInv s.frameStart ∧ CommitReady s.frameStart := by
  obtain ⟨hi, hc⟩ := h
  have hsolver : s.frameStart.solver = s.solver := by simp
  have hzone : s.frameStart.zone = s.zone := by simp
  unfold DomainInv CommitReady
  rw [hsolver, hzone, s.frameStart_banks]
  split
  · next hp =>
    refine ⟨fun d => ?_, ?_⟩
    · obtain ⟨_, hbud, hpbud, hrest⟩ := hi d
      obtain ⟨_, _, hb⟩ := s.committedBank_domain d
      exact ⟨hc.committed hp d, hb ▸ hpbud, hbud, hrest⟩
    · obtain ⟨ha, hpb, hn, _⟩ := hc
      exact ⟨State.committedBank_inRange ha hpb, ha, hn, nofun⟩
  · exact ⟨hi, hc⟩

theorem DomainInv.lossSolve {s : State} (h : DomainInv s ∧ CommitReady s) :
    DomainInv s.lossSolve ∧ CommitReady s.lossSolve := by
  obtain ⟨hi, ha, hpb, hn, hsum⟩ := h
  obtain ⟨hz, hd, _⟩ := s.lossSolve_pending
  obtain ⟨_, hinputs, _⟩ := s.lossSolve_solver
  have hactive : s.lossSolve.banks.active = s.banks.active := by simp
  refine ⟨hi.congr (by rw [hactive]) hd hinputs, hactive ▸ ha, hpb.congr hz hd, by simpa [ZoneStore.n] using hn, fun hp => ?_⟩
  rcases s.lossSolve_starts with hs | ⟨_, _, _, _, hsolving, _⟩
  · rw [hs] at hp ⊢
    exact hsum hp
  · rw [hsolving] at hp
    cases hp

/-- The map banks, the grid and the solver alone bear on what a frame start needs. -/
theorem DomainInv.congr_ready {s t : State} (h : DomainInv s ∧ CommitReady s)
    (ht : ∀ p ∈ [Part.active, .pendingBank, .solver, .grid, .pend], t.part p = s.part p) :
    DomainInv t ∧ CommitReady t := by
  have ha : t.banks.active = s.banks.active := ht .active (by simp)
  have hp : t.banks.pendingBank = s.banks.pendingBank := ht .pendingBank (by simp)
  have hv : t.solver = s.solver := ht .solver (by simp)
  obtain ⟨hc, hr⟩ := Prod.mk.inj (ht .grid (by simp))
  have hpend : t.banks.pend = s.banks.pend := ht .pend (by simp)
  unfold DomainInv CommitReady ZoneStore.n at *
  rw [ha, hp, hv, hc, hr, hpend]
  exact h

theorem DomainInv.solveEnd {s : State} (hi : DomainInv s) : DomainInv s.solveEnd := by
  have written (t : State) (ha : t.banks.active = s.banks.active) (hv : t.solver.inputs = s.solver.inputs)
      (hd : t.banks.pendingBank.domains = s.solver.domainRecords) : DomainInv t := by
    intro d
    obtain ⟨hsum, hbud, _, hin, hrec⟩ := hi d
    rw [ha, hv, hd]
    exact ⟨hsum, hbud, by simpa [Solver.domainRecords] using hin, hin, hrec⟩
  unfold State.solveEnd
  dsimp only
  split
  · exact written _ rfl rfl rfl
  · exact written _ (by simp) (by simp) (by simp)

/-- The inputs of the factor step are settings (R37, R53). -/
theorem State.factorInputs_inRange {s : State} (hset : SettingsInv s) (d : Domain) :
    (s.factorInputs.get d).budget ≤ Config.maxBudget ∧ 1 ≤ (s.factorInputs.get d).recovery
      ∧ (s.factorInputs.get d).recovery ≤ 4096 := by
  simpa [State.factorInputs] using hset.1 d

theorem exec_keeps_domainInv {c : Instr} {s t : State} (h : exec c s = .next t) (hset : SettingsInv s)
    (hready : CommitReady s) (hi : DomainInv s) : DomainInv t := by
  have ownFrame (hc : StartsOwnFrame c) : DomainInv t :=
    (exec_ownFrame_keeps (P := fun u => DomainInv u ∧ CommitReady u) hc h
      (fun u _ hu => DomainInv.congr_ready ⟨hi, hready⟩ fun p hp => hu p (by rintro rfl; simp at hp)
        (by rintro rfl; simp at hp))
      fun u next hu => DomainInv.lossSolve (DomainInv.frameStart
        (DomainInv.congr_ready hu fun p hp => by fin_cases hp <;> rfl))).1
  cases c with
  | closeFrame record cut =>
    rcases exec_closeFrame_cases h with ⟨_, rfl⟩ | ⟨_, rfl⟩ | ⟨_, _, _, r, _, rfl⟩
    · exact hi
    · exact hi
    · exact hi.congr (by simp) (by simp [State.startSolve]) (by simp [State.startSolve])
  | fsyncFallingEdge time held high =>
    exact (exec_fsync_keeps (P := fun u => DomainInv u ∧ CommitReady u) h
      (fun u hu => DomainInv.congr_ready ⟨hi, hready⟩ fun p hp => hu p (by rintro rfl; simp at hp)
        (by rintro rfl; simp at hp) (by rintro rfl; simp at hp))
      fun u => DomainInv.frameStart).1
  | lossTimerExpiry => exact ownFrame (.inl rfl)
  | internalFrameStart => exact ownFrame (.inr (.inl rfl))
  | setLoss p => exact ownFrame (.inr (.inr ⟨p, rfl⟩))
  | powerOnReset a b k f =>
    cases h
    intro d
    obtain ⟨_, _, hpbud, _⟩ := hi d
    exact ⟨by simp [MapBanks.powerOn, Bank.reset, DomainRecord.reset],
      by simp [MapBanks.powerOn, Bank.reset, DomainRecord.reset], hpbud, by simp [Solver.reset], by simp [Solver.reset],
      by simp [Solver.reset]⟩
  | pass1Zone =>
    cases h
    split
    · intro d
      obtain ⟨hsum, hbud, hpbud, hin⟩ := hi d
      refine ⟨hsum, hbud, hpbud, ?_⟩
      dsimp only
      split
      · exact s.factorInputs_inRange hset d
      · exact hin
    · exact hi
  | factorStep =>
    cases h
    split
    · exact hi.congr rfl rfl rfl
    · exact hi
  | pass2Zone =>
    cases h
    have handled : DomainInv s.pass2Step := hi.congr rfl rfl rfl
    split
    · split
      · exact handled.solveEnd
      · exact handled
    · exact hi
  | _ => exact hi.keepsMap (exec_keepsMap h rfl)

/-- Settles O56: each invariant is kept by every command, and a microsecond that passes changes nothing that one of
them speaks of. -/
theorem everyStepKeepsTheRanges : Obligations.EveryStepKeepsTheRanges := by
  refine ⟨fun s t h => ?_, fun s t h => ?_, fun s t h => ?_⟩
  · rcases step_cases h with rfl | ⟨c, rest, hc⟩
    · exact ⟨id, id⟩
    · exact ⟨fun hi => exec_keeps_rangeInv hc hi, fun hi => exec_keeps_settingsInv hc hi⟩
  · rcases step_cases h with rfl | ⟨c, rest, hc⟩
    · exact id
    · exact fun hi => exec_keeps_driverInv hc hi
  · rcases step_cases h with rfl | ⟨c, rest, hc⟩
    · exact ⟨id, fun _ => id, fun _ _ _ _ => id⟩
    · exact ⟨fun hi => exec_keeps_gridInv hc hi, fun hset hi => exec_keeps_thermalInv hc hset hi,
        fun hr hset hg hb hi => exec_keeps_domainInv hc hset (commitReady_of_inv hr hg hb) hi⟩

end Sys2Proof.Machine

/-! ## Write orders (R4) -/

namespace Sys2Proof.Machine

open Sys2Proof

/-! ### Zones, columns and rows -/

theorem zoneIndex_div {cols c r : Nat} (hc : c < cols) : zoneIndex cols c r / cols = r := by
  rw [zoneIndex, Nat.mul_comm, Nat.mul_add_div (by omega), Nat.div_eq_of_lt hc, Nat.add_zero]

theorem zoneIndex_mod {cols c r : Nat} (hc : c < cols) : zoneIndex cols c r % cols = c := by
  rw [zoneIndex, Nat.mul_comm, Nat.mul_add_mod, Nat.mod_eq_of_lt hc]

/-- A zone is the one at its own column and row. -/
theorem zoneIndex_mod_div (cols z : Nat) : zoneIndex cols (z % cols) (z / cols) = z := by
  rw [zoneIndex, Nat.mul_comm]
  exact Nat.div_add_mod z cols

/-- The zones of the grid are those with a column and a row of it (R1). -/
theorem lt_grid_iff {cols rows z : Nat} : z < cols * rows ↔ 0 < cols ∧ z / cols < rows := by
  rcases Nat.eq_zero_or_pos cols with rfl | hc
  · simp
  · rw [Nat.div_lt_iff_lt_mul hc, Nat.mul_comm]
    simp [hc]

/-! ### Rows and blocks -/

theorem mem_rowForward {cols r z : Nat} : z ∈ rowForward cols r ↔ 0 < cols ∧ z / cols = r := by
  simp only [rowForward, List.mem_map, List.mem_range]
  constructor
  · rintro ⟨c, hc, rfl⟩
    exact ⟨by omega, zoneIndex_div hc⟩
  · rintro ⟨hc, rfl⟩
    exact ⟨z % cols, Nat.mod_lt z hc, zoneIndex_mod_div cols z⟩

theorem rowForward_pairwise (cols r : Nat) : (rowForward cols r).Pairwise fun i j => i % cols < j % cols := by
  refine List.pairwise_map.2 (List.pairwise_lt_range.imp_of_mem fun ha hb h => ?_)
  rw [zoneIndex_mod (List.mem_range.1 ha), zoneIndex_mod (List.mem_range.1 hb)]
  exact h

theorem mem_quadBlock {cols rows bc br z : Nat} :
    z ∈ quadBlock cols rows bc br ↔ z < cols * rows ∧ z % cols / 2 = bc ∧ z / cols / 2 = br := by
  simp only [quadBlock, List.mem_map, List.mem_filter, Bool.and_eq_true, decide_eq_true_eq, Prod.exists]
  constructor
  · rintro ⟨c, r, ⟨hmem, hc, hr⟩, rfl⟩
    rw [lt_grid_iff, zoneIndex_div hc, zoneIndex_mod hc]
    simp only [List.mem_cons, Prod.mk.injEq, List.not_mem_nil, or_false] at hmem
    omega
  · rintro ⟨hz, hc, hr⟩
    obtain ⟨hpos, hrow⟩ := lt_grid_iff.1 hz
    refine ⟨z % cols, z / cols, ⟨?_, Nat.mod_lt z hpos, hrow⟩, zoneIndex_mod_div cols z⟩
    simp only [List.mem_cons, Prod.mk.injEq, List.not_mem_nil, or_false]
    omega

theorem quadBlock_pairwise (cols rows bc br : Nat) :
    (quadBlock cols rows bc br).Pairwise fun i j =>
      i / cols < j / cols ∨ i / cols = j / cols ∧ i % cols < j % cols := by
  have corners : [(2 * bc, 2 * br), (2 * bc + 1, 2 * br), (2 * bc, 2 * br + 1), (2 * bc + 1, 2 * br + 1)].Pairwise
      fun p q : Nat × Nat => p.2 < q.2 ∨ p.2 = q.2 ∧ p.1 < q.1 := by
    simp
  refine List.pairwise_map.2 ((corners.filter _).imp_of_mem fun hp hq h => ?_)
  simp only [List.mem_filter, Bool.and_eq_true, decide_eq_true_eq] at hp hq
  obtain ⟨_, hpc, _⟩ := hp
  obtain ⟨_, hqc, _⟩ := hq
  rwa [zoneIndex_div hpc, zoneIndex_div hqc, zoneIndex_mod hpc, zoneIndex_mod hqc]

/-! ### The orders -/

theorem mem_zoneSequence {o : WriteOrder} {cols rows z : Nat} : z ∈ zoneSequence o cols rows ↔ z < cols * rows := by
  rw [lt_grid_iff]
  cases o with
  | raster =>
    simp only [zoneSequence, List.mem_flatMap, List.mem_range, mem_rowForward]
    exact ⟨fun ⟨r, hr, hc, hz⟩ => ⟨hc, hz ▸ hr⟩, fun ⟨hc, hr⟩ => ⟨_, hr, hc, rfl⟩⟩
  | serpentine =>
    have hmem (r : Nat) : z ∈ (if r % 2 = 0 then rowForward cols r else (rowForward cols r).reverse)
        ↔ 0 < cols ∧ z / cols = r := by
      split
      · exact mem_rowForward
      · exact List.mem_reverse.trans mem_rowForward
    simp only [zoneSequence, List.mem_flatMap, List.mem_range, hmem]
    exact ⟨fun ⟨r, hr, hc, hz⟩ => ⟨hc, hz ▸ hr⟩, fun ⟨hc, hr⟩ => ⟨_, hr, hc, rfl⟩⟩
  | quad =>
    simp only [zoneSequence, List.mem_flatMap, List.mem_range, mem_quadBlock, lt_grid_iff]
    constructor
    · rintro ⟨_, _, _, _, hz, _⟩
      exact hz
    · rintro ⟨hc, hr⟩
      have hcol := Nat.mod_lt z hc
      exact ⟨z / cols / 2, by omega, z % cols / 2, by omega, ⟨hc, hr⟩, rfl, rfl⟩

theorem zoneSequence_pairwise (o : WriteOrder) (cols rows : Nat) :
    (zoneSequence o cols rows).Pairwise (o.before cols) := by
  cases o with
  | raster =>
    refine List.pairwise_flatMap.2 ⟨fun r _ => ?_, List.pairwise_lt_range.imp fun hlt i hi j hj => ?_⟩
    · refine (rowForward_pairwise cols r).imp_of_mem fun hi hj h => .inr ⟨?_, h⟩
      rw [(mem_rowForward.1 hi).2, (mem_rowForward.1 hj).2]
    · left
      rw [(mem_rowForward.1 hi).2, (mem_rowForward.1 hj).2]
      exact hlt
  | serpentine =>
    have row {r z : Nat} (hz : z ∈ (if r % 2 = 0 then rowForward cols r else (rowForward cols r).reverse)) :
        z / cols = r := by
      split at hz
      · exact (mem_rowForward.1 hz).2
      · exact (mem_rowForward.1 (List.mem_reverse.1 hz)).2
    refine List.pairwise_flatMap.2 ⟨fun r _ => ?_, List.pairwise_lt_range.imp fun hlt i hi j hj => ?_⟩
    · have turned : (if r % 2 = 0 then rowForward cols r else (rowForward cols r).reverse).Pairwise
          fun i j => if r % 2 = 0 then i % cols < j % cols else j % cols < i % cols := by
        split
        · exact rowForward_pairwise cols r
        · exact List.pairwise_reverse.2 (rowForward_pairwise cols r)
      refine turned.imp_of_mem fun hi hj h => .inr ⟨(row hi).trans (row hj).symm, ?_⟩
      rw [row hi]
      exact h
    · left
      rw [row hi, row hj]
      exact hlt
  | quad =>
    refine List.pairwise_flatMap.2 ⟨fun br _ => List.pairwise_flatMap.2 ⟨fun bc _ => ?_, ?_⟩, ?_⟩
    · refine (quadBlock_pairwise cols rows bc br).imp_of_mem fun hi hj h => ?_
      obtain ⟨_, hic, hir⟩ := mem_quadBlock.1 hi
      obtain ⟨_, hjc, hjr⟩ := mem_quadBlock.1 hj
      exact .inr ⟨hir.trans hjr.symm, .inr ⟨hic.trans hjc.symm, h⟩⟩
    · refine List.pairwise_lt_range.imp fun hlt i hi j hj => ?_
      obtain ⟨_, hic, hir⟩ := mem_quadBlock.1 hi
      obtain ⟨_, hjc, hjr⟩ := mem_quadBlock.1 hj
      refine .inr ⟨hir.trans hjr.symm, .inl ?_⟩
      rw [hic, hjc]
      exact hlt
    · refine List.pairwise_lt_range.imp fun hlt i hi j hj => ?_
      obtain ⟨_, _, hi⟩ := List.mem_flatMap.1 hi
      obtain ⟨_, _, hj⟩ := List.mem_flatMap.1 hj
      obtain ⟨_, _, hir⟩ := mem_quadBlock.1 hi
      obtain ⟨_, _, hjr⟩ := mem_quadBlock.1 hj
      left
      rw [hir, hjr]
      exact hlt

theorem WriteOrder.before_irrefl (o : WriteOrder) (cols i : Nat) : ¬o.before cols i i := by
  cases o <;> simp [WriteOrder.before]

theorem zoneSequence_nodup (o : WriteOrder) (cols rows : Nat) : (zoneSequence o cols rows).Nodup := by
  refine (zoneSequence_pairwise o cols rows).imp fun h he => ?_
  rw [he] at h
  exact o.before_irrefl cols _ h

theorem zoneSequence_perm (o : WriteOrder) (cols rows : Nat) :
    (zoneSequence o cols rows).Perm (List.range (cols * rows)) :=
  (List.perm_ext_iff_of_nodup (zoneSequence_nodup o cols rows) List.nodup_range).2 fun _ => by
    rw [mem_zoneSequence, List.mem_range]

/-- Settles O3: each order holds the zones of the grid, in the order of its words, which no zone precedes itself in. -/
theorem writeOrdersArrangeEveryZoneOnce : Obligations.WriteOrdersArrangeEveryZoneOnce := fun o cols rows =>
  ⟨zoneSequence_perm o cols rows, zoneSequence_pairwise o cols rows⟩

/-! ### Positions -/

theorem length_zoneSequence (o : WriteOrder) (cols rows : Nat) : (zoneSequence o cols rows).length = cols * rows := by
  simpa using (zoneSequence_perm o cols rows).length_eq

/-- The position of a zone of the grid holds that zone (R5). -/
theorem seqAt_positionOf (v : ZoneStore) (o : WriteOrder) {z : Nat} (hz : z < v.n) :
    v.seqAt o (positionOf o v.cols v.rows z) = some z :=
  List.getElem?_idxOf (mem_zoneSequence.2 hz)

/-- The zone at a position, with the wrap after N − 1 (R5). -/
theorem seqAt_mod (v : ZoneStore) (o : WriteOrder) {k : Nat} (hn : 0 < v.n) :
    v.seqAt o (k % v.n) = some (zoneAt o v.cols v.rows k) := by
  have hk : k % (v.cols * v.rows) < (zoneSequence o v.cols v.rows).length := by
    rw [length_zoneSequence]
    exact Nat.mod_lt k hn
  rw [zoneAt, List.getD_eq_getElem _ _ hk]
  exact List.getElem?_eq_getElem hk

theorem seqAt_of_lt (v : ZoneStore) (o : WriteOrder) {k : Nat} (hk : k < v.n) :
    v.seqAt o k = some (zoneAt o v.cols v.rows k) := by
  rw [← seqAt_mod v o (Nat.zero_lt_of_lt hk), Nat.mod_eq_of_lt hk]

/-- Two positions of the order that hold the same zone are one (R4). -/
theorem seqAt_inj {v : ZoneStore} {o : WriteOrder} {j k z : Nat} (hj : v.seqAt o j = some z)
    (hk : v.seqAt o k = some z) : j = k :=
  (List.getElem?_inj (List.getElem?_eq_some_iff.1 hj).1 (zoneSequence_nodup o v.cols v.rows)).1 (hj.trans hk.symm)

end Sys2Proof.Machine

/-! ## The bytes of the ports -/

namespace Sys2Proof.Machine

open Sys2Proof

/-! ### Values and gains (R9, R12, R186) -/

/-- Two demand values in three bytes: the first byte and the upper half of the second hold the first value. -/
theorem demandValue_of_first_bytes (u : Demand) (low : BitVec 4) :
    (u.extractLsb' 4 8 ++ (u.extractLsb' 0 4 ++ low).extractLsb' 4 4 : BitVec 12) = u := by
  rw [BitVec.extractLsb'_append_eq_left, BitVec.extractLsb'_append_extractLsb'_eq_extractLsb' (by decide)]
  exact BitVec.extractLsb'_eq_self

/-- The lower half of the second byte and the third hold the second value. -/
theorem demandValue_of_last_bytes (v : Demand) (high : BitVec 4) :
    ((high ++ v.extractLsb' 8 4).extractLsb' 0 4 ++ v.extractLsb' 0 8 : BitVec 12) = v := by
  rw [BitVec.extractLsb'_append_eq_right, BitVec.extractLsb'_append_extractLsb'_eq_extractLsb' (by decide)]
  exact BitVec.extractLsb'_eq_self

theorem demandValues_demandBytes (values : List Demand) : demandValues (demandBytes values) = values := by
  induction values using demandBytes.induct with
  | case1 u v rest ih =>
    rw [demandBytes, demandValues, ih, demandValue_of_first_bytes, demandValue_of_last_bytes]
  | case2 u => rw [demandBytes, demandValues, demandValue_of_first_bytes]
  | case3 => rfl

theorem gainWords_gainWordBytes (words : List (BitVec 16)) : gainWords (gainWordBytes words) = words := by
  induction words with
  | nil => rfl
  | cons w rest ih => rw [gainWordBytes, gainWords, ih, Laws.Encoding.bytes_of_field]

theorem length_demandValues : ∀ bytes : List Byte, (demandValues bytes).length = bytes.length * 2 / 3
  | [] | [_] | [_, _] => by simp [demandValues]
  | a :: b :: c :: rest => by
    have ih := length_demandValues rest
    simp only [demandValues, List.length_cons, ih]
    omega

theorem length_gainWords : ∀ bytes : List Byte, (gainWords bytes).length = bytes.length / 2
  | [] | [_] => by simp [gainWords]
  | a :: b :: rest => by
    have ih := length_gainWords rest
    simp only [gainWords, List.length_cons, ih]
    omega

/-! ### Position fields (R186) -/

theorem positionStart_append (first : BitVec 12) (order spare : BitVec 2) :
    positionStart (first ++ order ++ spare) = first.toNat := by
  rw [positionStart, BitVec.extractLsb'_append_eq_of_le (by decide)]
  exact congrArg BitVec.toNat BitVec.extractLsb'_append_eq_left

theorem positionOrder_append (first : BitVec 12) (order spare : BitVec 2) :
    positionOrder (first ++ order ++ spare) =
      if order = 0 then some .raster else if order = 1 then some .serpentine
        else if order = 2 then some .quad else none := by
  have hfield : (first ++ order ++ spare).extractLsb' 2 2 = order := by
    rw [BitVec.extractLsb'_append_eq_of_le (by decide)]
    exact BitVec.extractLsb'_append_eq_right
  rw [positionOrder, hfield]

/-- Every command decodes from its bytes: one lemma of the encoding for each (R160, R173). -/
theorem encoding_statement (i : Instr) : Laws.Encoding.Statement i := by
  cases i with
  | writeDemand position cut => exact Laws.Encoding.writeDemand position cut
  | demandValue value => exact Laws.Encoding.demandValue value
  | pictureWriteGain set position cut => exact Laws.Encoding.pictureWriteGain set position cut
  | pictureGainValue value => exact Laws.Encoding.pictureGainValue value
  | closeFrame record cut => exact Laws.Encoding.closeFrame record cut
  | pictureReadMap bank start count cut => exact Laws.Encoding.pictureReadMap bank start count cut
  | pictureReadStatus cut => exact Laws.Encoding.pictureReadStatus cut
  | pictureReadGain set start count cut => exact Laws.Encoding.pictureReadGain set start count cut
  | pictureUnknownCommand command => exact Laws.Encoding.pictureUnknownCommand command
  | setGrid params => exact Laws.Encoding.setGrid params
  | loadDriver params => exact Laws.Encoding.loadDriver params
  | setBudget params => exact Laws.Encoding.setBudget params
  | setSlew params => exact Laws.Encoding.setSlew params
  | setDerate params => exact Laws.Encoding.setDerate params
  | setScan params => exact Laws.Encoding.setScan params
  | setLink params => exact Laws.Encoding.setLink params
  | setLoss params => exact Laws.Encoding.setLoss params
  | supervisorWriteGain params => exact Laws.Encoding.supervisorWriteGain params
  | selectGainSet params => exact Laws.Encoding.selectGainSet params
  | lockRange params => exact Laws.Encoding.lockRange params
  | zoneEnable params => exact Laws.Encoding.zoneEnable params
  | clearFault params => exact Laws.Encoding.clearFault params
  | start params => exact Laws.Encoding.start params
  | stop params => exact Laws.Encoding.stop params
  | rearm params => exact Laws.Encoding.rearm params
  | softReset params => exact Laws.Encoding.softReset params
  | ackAlert params => exact Laws.Encoding.ackAlert params
  | probe params => exact Laws.Encoding.probe params
  | supervisorReadStatus params => exact Laws.Encoding.supervisorReadStatus params
  | popEvent params => exact Laws.Encoding.popEvent params
  | readDriver params => exact Laws.Encoding.readDriver params
  | supervisorReadMap params => exact Laws.Encoding.supervisorReadMap params
  | readPower params => exact Laws.Encoding.readPower params
  | supervisorReadGain params => exact Laws.Encoding.supervisorReadGain params
  | supervisorUnknownCommand command => exact Laws.Encoding.supervisorUnknownCommand command
  | fsyncFallingEdge time held high => exact Laws.Encoding.fsyncFallingEdge time held high
  | holdRise time held => exact Laws.Encoding.holdRise time held
  | holdFall time held => exact Laws.Encoding.holdFall time held
  | killFallingEdge held => exact Laws.Encoding.killFallingEdge held
  | killRisingEdge held => exact Laws.Encoding.killRisingEdge held
  | powerOnReset straps holdHigh killHigh fsyncHigh =>
    exact Laws.Encoding.powerOnReset straps holdHigh killHigh fsyncHigh
  | resetGapEnd => exact Laws.Encoding.resetGapEnd
  | lossTimerExpiry => exact Laws.Encoding.lossTimerExpiry
  | internalFrameStart => exact Laws.Encoding.internalFrameStart
  | pollTimerExpiry => exact Laws.Encoding.pollTimerExpiry
  | latchDue => exact Laws.Encoding.latchDue
  | pass1Zone => exact Laws.Encoding.pass1Zone
  | factorStep => exact Laws.Encoding.factorStep
  | pass2Zone => exact Laws.Encoding.pass2Zone
  | transmitChoice => exact Laws.Encoding.transmitChoice
  | attentionStart => exact Laws.Encoding.attentionStart
  | arbitrationEnd sampled wide => exact Laws.Encoding.arbitrationEnd sampled wide
  | levelEnding status wide => exact Laws.Encoding.levelEnding status wide
  | latchEnding errorReport wide => exact Laws.Encoding.latchEnding errorReport wide
  | blankEnding errorReport wide => exact Laws.Encoding.blankEnding errorReport wide
  | discoveryConfigEnding status wide => exact Laws.Encoding.discoveryConfigEnding status wide
  | probeConfigEnding status wide => exact Laws.Encoding.probeConfigEnding status wide
  | readEnding status response wide => exact Laws.Encoding.readEnding status response wide
  | pollEnding lowSlots wide => exact Laws.Encoding.pollEnding lowSlots wide
  | attentionWindow => exact Laws.Encoding.attentionWindow

/-- Settles O54: the encoding's lemma of each command, and the fields of values, gains and positions read back. -/
theorem portCommandsDecodeFromTheirBytes : Obligations.PortCommandsDecodeFromTheirBytes :=
  ⟨encoding_statement, demandValues_demandBytes, gainWords_gainWordBytes,
    fun bytes => ⟨length_demandValues bytes, length_gainWords bytes⟩,
    fun first order spare => ⟨positionStart_append first order spare, positionOrder_append first order spare⟩⟩

end Sys2Proof.Machine

/-! ## Write frames (O4 to O7) -/

namespace Sys2Proof.Machine

open Sys2Proof

/-! ### Headers -/

theorem validHeader_eq_some_iff {n : Nat} {p : BitVec 16} {o : WriteOrder} :
    validHeader n p = some o ↔ positionStart p < n ∧ positionOrder p = some o := by
  unfold validHeader
  split <;> simp_all

theorem validHeader_eq_none_iff {n : Nat} {p : BitVec 16} :
    validHeader n p = none ↔ n ≤ positionStart p ∨ positionOrder p = none := by
  unfold validHeader
  split
  · next h => simp [Nat.not_le.2 h]
  · next h => simp [Nat.not_lt.1 h]

theorem exec_writeDemand_late {p : BitVec 16} {s : State} (h : s.zone.storeOpen = false) :
    exec (.writeDemand p false) s = .next ((s.raise .lateWrite).frame .nothing) := by
  show execWriteDemand p s false = _
  simp [execWriteDemand, h]

theorem exec_writeDemand_refused {p : BitVec 16} {s : State} (h : s.zone.storeOpen = true)
    (hv : validHeader s.zone.n p = none) : exec (.writeDemand p false) s = .next (s.frame .nothing) := by
  show execWriteDemand p s false = _
  simp [execWriteDemand, h, hv]

theorem exec_writeDemand_taken {p : BitVec 16} {o : WriteOrder} {s : State} (h : s.zone.storeOpen = true)
    (hv : validHeader s.zone.n p = some o) :
    exec (.writeDemand p false) s =
      .next (s.frame (.writeDemand o (positionOf o s.zone.cols s.zone.rows (positionStart p)))) := by
  show execWriteDemand p s false = _
  simp [execWriteDemand, h, hv]

theorem exec_pictureWriteGain_refused {set : Byte} {p : BitVec 16} {s : State}
    (hv : validHeader s.zone.n p = none) : exec (.pictureWriteGain set p false) s = .next (s.frame .nothing) := by
  show execPictureWriteGain set p s false = _
  simp [execPictureWriteGain, hv]

theorem exec_pictureWriteGain_taken {set : Byte} {p : BitVec 16} {o : WriteOrder} {s : State}
    (hv : validHeader s.zone.n p = some o) :
    exec (.pictureWriteGain set p false) s = .next (s.frame
      (.writeGain (gainSetOf set) o (positionOf o s.zone.cols s.zone.rows (positionStart p)))) := by
  show execPictureWriteGain set p s false = _
  simp [execPictureWriteGain, hv]

/-- Settles O4: a header is judged by the store's state, its start zone and its order. -/
theorem writeHeadersAreRefusedOrTaken : Obligations.WriteHeadersAreRefusedOrTaken := by
  refine ⟨fun p s => ⟨fun h => exec_writeDemand_late h, fun h hr => ?_, fun o h hstart ho => ?_⟩,
    fun set p s => ⟨fun hr => ?_, fun o hstart ho => ?_⟩⟩
  · exact exec_writeDemand_refused h (validHeader_eq_none_iff.2 hr)
  · exact ⟨_, seqAt_positionOf s.zone o hstart,
      exec_writeDemand_taken h (validHeader_eq_some_iff.2 ⟨hstart, ho⟩)⟩
  · exact exec_pictureWriteGain_refused (validHeader_eq_none_iff.2 hr)
  · exact ⟨_, seqAt_positionOf s.zone o hstart,
      exec_pictureWriteGain_taken (validHeader_eq_some_iff.2 ⟨hstart, ho⟩)⟩

/-! ### Values -/

/-- The state after a demand value of a taken WRITE DEMAND at a position (R9). -/
def State.takeDemand (s : State) (o : WriteOrder) (k : Nat) (v : Demand) : State :=
  State.frame (.writeDemand o ((k + 1) % s.zone.n))
    { s with zone := { s.zone with demand := s.zone.demand.set 0 (zoneAt o s.zone.cols s.zone.rows k) v } }

theorem exec_demandValue_taken {v : Demand} {o : WriteOrder} {k : Nat} {s : State}
    (h : s.picture.frame = .writeDemand o k) : exec (.demandValue v) s = .next (s.takeDemand o k v) := by
  show execDemandValue v s = _
  simp [execDemandValue, h, State.takeDemand]

theorem State.takeDemand_demandAt (s : State) (o : WriteOrder) (k : Nat) (v : Demand) (i : Nat) :
    (s.takeDemand o k v).zone.demandAt i =
      if i = zoneAt o s.zone.cols s.zone.rows k then v else s.zone.demandAt i :=
  Store.get_set _ _ _ _ _

theorem exec_demandValue_discarded {v : Demand} {s : State} (h : ∀ o k, s.picture.frame ≠ .writeDemand o k) :
    exec (.demandValue v) s = .next s := by
  show execDemandValue v s = _
  unfold execDemandValue
  split
  · next hf => exact absurd hf (h _ _)
  · rfl

theorem exec_pictureGainValue_dropped {w : BitVec 16} {g : GainSet} {o : WriteOrder} {k : Nat} {s : State}
    (h : s.picture.frame = .writeGain g o k) (hl : s.zone.locked (zoneAt o s.zone.cols s.zone.rows k) = true) :
    exec (.pictureGainValue w) s = .next ((s.frame (.writeGain g o ((k + 1) % s.zone.n))).raise .gainLocked) := by
  show execPictureGainValue w s = _
  simp [execPictureGainValue, h, hl]

theorem exec_pictureGainValue_written {w : BitVec 16} {g : GainSet} {o : WriteOrder} {k : Nat} {s : State}
    (h : s.picture.frame = .writeGain g o k) (hl : s.zone.locked (zoneAt o s.zone.cols s.zone.rows k) = false) :
    exec (.pictureGainValue w) s = .next { s.frame (.writeGain g o ((k + 1) % s.zone.n)) with
      zone := s.zone.putGain g (zoneAt o s.zone.cols s.zone.rows k) (gainOf w) } := by
  show execPictureGainValue w s = _
  simp [execPictureGainValue, h, hl]

theorem exec_pictureGainValue_discarded {w : BitVec 16} {s : State}
    (h : ∀ g o k, s.picture.frame ≠ .writeGain g o k) : exec (.pictureGainValue w) s = .next s := by
  show execPictureGainValue w s = _
  unfold execPictureGainValue
  split
  · next hf => exact absurd hf (h _ _ _)
  · rfl

/-- Settles O5: a value goes to the zone at its position, and the position steps on; a gain of a locked zone is
dropped. -/
theorem valuesOfATakenWriteGoToTheirPosition : Obligations.ValuesOfATakenWriteGoToTheirPosition := by
  refine ⟨fun v s => ⟨fun o k hf hk => ?_, fun h => exec_demandValue_discarded h⟩,
    fun w s => ⟨fun g o k hf hk => ⟨_, seqAt_of_lt s.zone o hk, fun hl => ?_, fun hl => ?_⟩,
      fun h => exec_pictureGainValue_discarded h⟩⟩
  · exact ⟨_, _, seqAt_of_lt s.zone o hk, exec_demandValue_taken hf, s.takeDemand_demandAt o k v, rfl⟩
  · exact exec_pictureGainValue_dropped hf ((s.zone.locked_iff _).2 hl)
  · refine ⟨_, exec_pictureGainValue_written hf ((s.zone.locked_eq_false_iff _).2 hl), fun h i => ?_, ?_⟩
    · exact s.zone.gainAt_putGain g h _ i _
    · rw [s.zone.putGain_frame]
      rfl

end Sys2Proof.Machine

namespace Sys2Proof.Machine

open Sys2Proof

/-! ### Values written one after the other -/

/-- A table of the zones after these writes, in their order. -/
def writeAll {α : Type} (f : Nat → α) (writes : List (Nat × α)) : Nat → α :=
  writes.foldl (fun g p => Function.update g p.1 p.2) f

@[simp] theorem writeAll_cons {α : Type} (f : Nat → α) (p : Nat × α) (rest : List (Nat × α)) :
    writeAll f (p :: rest) = writeAll (Function.update f p.1 p.2) rest := rfl

/-- A zone that no write visits keeps its value. -/
theorem writeAll_of_not_visited {α : Type} {f : Nat → α} {writes : List (Nat × α)} {z : Nat}
    (hz : ∀ p ∈ writes, p.1 ≠ z) : writeAll f writes z = f z := by
  induction writes generalizing f with
  | nil => rfl
  | cons p rest ih =>
    obtain ⟨hp, hrest⟩ := List.forall_mem_cons.1 hz
    rw [writeAll_cons, ih hrest, Function.update_of_ne (Ne.symm hp)]

/-- A zone holds what its last visit wrote. -/
theorem writeAll_of_last {α : Type} {f : Nat → α} {writes : List (Nat × α)} {k z : Nat} {v : α}
    (hk : writes[k]? = some (z, v)) (hlast : ∀ j p, k < j → writes[j]? = some p → p.1 ≠ z) :
    writeAll f writes z = v := by
  induction writes generalizing f k with
  | nil => simp at hk
  | cons p rest ih =>
    rw [writeAll_cons]
    cases k with
    | zero =>
      cases hk
      rw [writeAll_of_not_visited, Function.update_self]
      intro q hq
      obtain ⟨j, hj⟩ := List.mem_iff_getElem?.1 hq
      exact hlast (j + 1) q (Nat.succ_pos j) hj
    | succ k => exact ih hk fun j q hj hq => hlast (j + 1) q (Nat.succ_lt_succ hj) hq

/-- The gains of a set after gains written to it. -/
theorem ZoneStore.gainAt_putGains (v : ZoneStore) (g : GainSet) (writes : List (Nat × Gain)) :
    (v.putGains g writes).gainAt g = writeAll (v.gainAt g) writes := by
  induction writes generalizing v with
  | nil => rfl
  | cons p rest ih =>
    rw [ZoneStore.putGains, ih, writeAll_cons]
    congr 1
    funext i
    simp [Function.update_apply]

/-! ### The zones that a run of values visits (R5) -/

/-- The zones of `count` positions from one on. -/
def ZoneStore.visitedFrom (v : ZoneStore) (o : WriteOrder) (k count : Nat) : List Nat :=
  (List.range count).map fun j => zoneAt o v.cols v.rows (k + j)

theorem ZoneStore.visited_eq (v : ZoneStore) (o : WriteOrder) (z count : Nat) :
    v.visited o z count = v.visitedFrom o (positionOf o v.cols v.rows z) count := rfl

theorem ZoneStore.visitedFrom_mod (v : ZoneStore) (o : WriteOrder) (k count : Nat) :
    v.visitedFrom o (k % v.n) count = v.visitedFrom o k count := by
  simp [ZoneStore.visitedFrom, zoneAt, ZoneStore.n]

theorem ZoneStore.visitedFrom_succ (v : ZoneStore) (o : WriteOrder) (k count : Nat) :
    v.visitedFrom o k (count + 1) = zoneAt o v.cols v.rows k :: v.visitedFrom o (k + 1) count := by
  simp [ZoneStore.visitedFrom, List.range_succ_eq_map, Nat.add_comm, Nat.add_left_comm]

/-- The zones visited are those that the positions hold. -/
theorem ZoneStore.mem_visitedFrom {v : ZoneStore} (hn : 0 < v.n) {o : WriteOrder} {k count z : Nat} :
    z ∈ v.visitedFrom o k count ↔ ∃ j, j < count ∧ v.seqAt o ((k + j) % v.n) = some z := by
  simp [ZoneStore.visitedFrom, seqAt_mod v o hn]

/-- The zone of each value written, by its position. -/
theorem ZoneStore.getElem?_writes {α : Type} {v : ZoneStore} (hn : 0 < v.n) {o : WriteOrder} {k j : Nat}
    {values : List α} {p : Nat × α} :
    ((v.visitedFrom o k values.length).zip values)[j]? = some p ↔
      v.seqAt o ((k + j) % v.n) = some p.1 ∧ values[j]? = some p.2 := by
  rw [List.getElem?_zip_eq_some, seqAt_mod v o hn]
  refine and_congr_left fun hj => ?_
  have hlt : j < values.length := (List.getElem?_eq_some_iff.1 hj).1
  simp [ZoneStore.visitedFrom, hlt]

/-- A zone that no position of the run holds is not visited. -/
theorem ZoneStore.not_visited {α : Type} {v : ZoneStore} (hn : 0 < v.n) {o : WriteOrder} {k : Nat} {values : List α}
    {z : Nat} (hz : ∀ j, j < values.length → v.seqAt o ((k + j) % v.n) ≠ some z) :
    ∀ p ∈ (v.visitedFrom o k values.length).zip values, p.1 ≠ z := by
  rintro p hp rfl
  obtain ⟨j, hj⟩ := List.mem_iff_getElem?.1 hp
  obtain ⟨hseq, hval⟩ := (ZoneStore.getElem?_writes hn).1 hj
  exact hz j (List.getElem?_eq_some_iff.1 hval).1 hseq

/-- A zone holds the value of its last visit in the run. -/
theorem ZoneStore.writeAll_visitedFrom {α : Type} {v : ZoneStore} (hn : 0 < v.n) {o : WriteOrder} {k j z : Nat}
    {values : List α} {x : α} {f : Nat → α} (hj : values[j]? = some x)
    (hlast : ∀ i, j < i → i < values.length → (k + i) % v.n ≠ (k + j) % v.n)
    (hz : v.seqAt o ((k + j) % v.n) = some z) :
    writeAll f ((v.visitedFrom o k values.length).zip values) z = x := by
  refine writeAll_of_last ((ZoneStore.getElem?_writes hn).2 ⟨hz, hj⟩) fun i p hi hp hpz => ?_
  obtain ⟨hseq, hval⟩ := (ZoneStore.getElem?_writes hn).1 hp
  exact hlast i hi (List.getElem?_eq_some_iff.1 hval).1 (seqAt_inj (hseq.trans (congrArg some hpz)) hz)

/-! ### A WRITE DEMAND frame run from the queue (R8, R9) -/

/-- One step with a command at the front of the queue, and the run goes on. -/
theorem run_succ {s u : State} {c : Instr} {rest : List Instr} (count : Nat) (hp : s.pending = c :: rest)
    (hu : exec c { s with pending := rest } = .next u) : core.run (count + 1) s = core.run count u := by
  have hstep : core.step s = .next u := by
    show step s = _
    rw [step, hp]
    exact hu
  simp only [Host.Core.run, hstep]

/-- The values of a taken WRITE DEMAND, run from the queue, are written at its position and those that follow. -/
theorem run_demandValues {o : WriteOrder} {rest : List Instr} (values : List Demand) {k : Nat} {s : State}
    (hf : s.picture.frame = .writeDemand o k) (hp : s.pending = values.map .demandValue ++ rest) :
    ∃ t, core.run values.length s = .next t
      ∧ t.zone.demandAt = writeAll s.zone.demandAt ((s.zone.visitedFrom o k values.length).zip values)
      ∧ t = { s with
          zone := { s.zone with demand := t.zone.demand }
          picture := { s.picture with frame := t.picture.frame }
          pending := rest } := by
  induction values generalizing k s with
  | nil =>
    refine ⟨s, rfl, rfl, ?_⟩
    rw [← show s.pending = rest from hp]
  | cons v values ih =>
    have hexec : exec (.demandValue v) { s with pending := values.map .demandValue ++ rest } =
        .next (State.takeDemand { s with pending := values.map .demandValue ++ rest } o k v) :=
      exec_demandValue_taken hf
    obtain ⟨t, hrun, hdemand, ht⟩ :=
      ih (s := State.takeDemand { s with pending := values.map .demandValue ++ rest } o k v) rfl rfl
    refine ⟨t, (run_succ _ hp hexec).trans hrun, ?_, ht⟩
    rw [hdemand, List.length_cons, ZoneStore.visitedFrom_succ, List.zip_cons_cons, writeAll_cons,
      ← s.zone.visitedFrom_mod o (k + 1)]
    congr 1
    funext i
    rw [Function.update_apply]
    exact State.takeDemand_demandAt _ o k v i

/-- Settles O6: the header is taken, then each value is written at its position. -/
theorem demandFrameFillsTheBank : Obligations.DemandFrameFillsTheBank := by
  intro p o values rest s hopen hstart ho hp
  have hn : 0 < s.zone.n := Nat.zero_lt_of_lt hstart
  rw [pictureFrame, if_pos rfl] at hp
  simp only [Laws.Encoding.bytes_of_field, demandValues_demandBytes, List.cons_append] at hp
  have htaken := exec_writeDemand_taken (s := { s with pending := values.map .demandValue ++ rest }) hopen
    (validHeader_eq_some_iff.2 ⟨hstart, ho⟩)
  obtain ⟨t, hrun, hdemand, ht⟩ := run_demandValues (o := o) (rest := rest) values
    (s := State.frame (.writeDemand o (positionOf o s.zone.cols s.zone.rows (positionStart p)))
      { s with pending := values.map .demandValue ++ rest }) rfl rfl
  refine ⟨t, _, seqAt_positionOf s.zone o hstart, (run_succ _ hp htaken).trans hrun, ?_, ?_, ht⟩
  · intro k v hk hlast z hz
    rw [hdemand]
    exact ZoneStore.writeAll_visitedFrom hn hk hlast hz
  · intro z hz
    rw [hdemand]
    exact writeAll_of_not_visited (ZoneStore.not_visited hn hz)

/-! ### WRITE GAIN of the supervisor port (R13) -/

theorem gainsOf_eq (bytes : List Byte) : gainsOf bytes = (gainWords bytes).map gainOf := by
  induction bytes using gainsOf.induct with
  | case1 a b rest ih => rw [gainsOf, gainWords, List.map_cons, ih]
  | case2 bytes h => rw [gainsOf.eq_2 bytes h, gainWords.eq_2 bytes h, List.map_nil]

theorem length_gainsOf (bytes : List Byte) : (gainsOf bytes).length = bytes.length / 2 := by
  rw [gainsOf_eq, List.length_map, length_gainWords]

/-- A gain stands in its two bytes. -/
theorem getElem?_gainsOf {bytes : List Byte} {k : Nat} {x y : Byte} (hx : bytes[2 * k]? = some x)
    (hy : bytes[2 * k + 1]? = some y) : (gainsOf bytes)[k]? = some ((x ++ y).extractLsb' 0 11) := by
  induction bytes using gainsOf.induct generalizing k with
  | case1 a b rest ih =>
    rw [gainsOf]
    cases k with
    | zero =>
      cases hx
      cases hy
      rfl
    | succ k => exact ih hx hy
  | case2 bytes h =>
    cases bytes with
    | nil => simp at hx
    | cons a rest =>
      cases rest with
      | nil => simp at hy
      | cons b rest => exact absurd rfl (h a b rest)

/-- What a WRITE GAIN judged as a whole names (R13). -/
theorem writeGainOf_eq {n : Nat} {set h l : Byte} {rest : List Byte} {o : WriteOrder}
    (hstart : positionStart (h ++ l) < n) (ho : positionOrder (h ++ l) = some o)
    (hmin : 1 ≤ (gainsOf rest).length) (hmax : (gainsOf rest).length ≤ 64) :
    writeGainOf n (set :: h :: l :: rest) = some (gainSetOf set, o, positionStart (h ++ l), gainsOf rest) := by
  rw [writeGainOf, if_pos ⟨hstart, hmin, hmax⟩, ho]
  rfl

theorem writeGainOf_eq_none {n : Nat} {set h l : Byte} {rest : List Byte}
    (hbad : n ≤ positionStart (h ++ l) ∨ positionOrder (h ++ l) = none ∨ (gainsOf rest).length = 0
      ∨ 64 < (gainsOf rest).length) : writeGainOf n (set :: h :: l :: rest) = none := by
  rw [writeGainOf]
  split
  · next hok =>
    rcases hbad with hbad | hbad | hbad | hbad
    · omega
    · rw [hbad]
      rfl
    · omega
    · omega
  · rfl

theorem exec_supervisorWriteGain_refused {params : List Byte} {s : State} (h : writeGainOf s.zone.n params = none) :
    exec (.supervisorWriteGain params) s = .next (s.result .range) := by
  show execSupervisorWriteGain params s = _
  rw [execSupervisorWriteGain, h]

theorem exec_supervisorWriteGain_locked {params : List Byte} {s : State} {g : GainSet} {o : WriteOrder} {z : Nat}
    {gains : List Gain} (h : writeGainOf s.zone.n params = some (g, o, z, gains))
    (hl : ∃ i ∈ s.zone.visited o z gains.length, s.zone.locked i = true) :
    exec (.supervisorWriteGain params) s = .next (s.result .locked) := by
  show execSupervisorWriteGain params s = _
  simp only [execSupervisorWriteGain, h, if_pos (List.any_eq_true.2 hl)]

theorem exec_supervisorWriteGain_written {params : List Byte} {s : State} {g : GainSet} {o : WriteOrder} {z : Nat}
    {gains : List Gain} (h : writeGainOf s.zone.n params = some (g, o, z, gains))
    (hl : ∀ i ∈ s.zone.visited o z gains.length, s.zone.locked i = false) :
    exec (.supervisorWriteGain params) s = .next (State.result .ok
      { s with zone := s.zone.putGains g ((s.zone.visited o z gains.length).zip gains) }) := by
  have hnone : ¬(s.zone.visited o z gains.length).any s.zone.locked = true := by simpa using hl
  show execSupervisorWriteGain params s = _
  simp only [execSupervisorWriteGain, h, if_neg hnone]

/-- Settles O7: the command is refused for its range, or for a lock on its run, or its gains are all written. -/
theorem supervisorWriteGainIsAllOrNothing : Obligations.SupervisorWriteGainIsAllOrNothing := by
  intro set h l rest s
  rw [← length_gainsOf rest]
  refine ⟨⟨rfl, fun k x y => getElem?_gainsOf⟩,
    fun hbad => exec_supervisorWriteGain_refused (writeGainOf_eq_none hbad), fun o hstart ho hmin hmax => ?_⟩
  have hn : 0 < s.zone.n := Nat.zero_lt_of_lt hstart
  have hwrites := writeGainOf_eq (set := set) hstart ho hmin hmax
  refine ⟨_, seqAt_positionOf s.zone o hstart, fun ⟨k, z, hk, hz, hl⟩ => ?_, fun hl => ?_⟩
  · exact exec_supervisorWriteGain_locked hwrites ⟨z, (ZoneStore.mem_visitedFrom hn).2 ⟨k, hk, hz⟩, hl⟩
  · have free (i : Nat) (hi : i ∈ s.zone.visited o (positionStart (h ++ l)) (gainsOf rest).length) :
        s.zone.locked i = false := by
      obtain ⟨k, hk, hz⟩ := (ZoneStore.mem_visitedFrom hn).1 hi
      exact hl k i hk hz
    refine ⟨_, exec_supervisorWriteGain_written hwrites free, fun k v hk hlast z hz => ?_, fun g z hz => ?_, ?_⟩
    · refine (congrFun (s.zone.gainAt_putGains _ _) z).trans ?_
      exact ZoneStore.writeAll_visitedFrom hn hk hlast hz
    · exact s.zone.gainAt_putGains_other _ _ _ _ (hz.imp_right (ZoneStore.not_visited hn))
    · rw [s.zone.putGains_frame]
      rfl

end Sys2Proof.Machine

/-! ## Commands on the zone store (O9, O10) -/

namespace Sys2Proof.Machine

open Sys2Proof

/-! ### LOCK RANGE, ZONE ENABLE, CLEAR FAULT (R16 to R18) -/

theorem zoneRangeOf_eq_some {n : Nat} {a b c d : Byte} {rest : List Byte}
    (h : be16 a b ≤ be16 c d ∧ be16 c d < n) :
    zoneRangeOf n (a :: b :: c :: d :: rest) = some ⟨be16 a b, be16 c d⟩ := if_pos h

theorem zoneRangeOf_eq_none {n : Nat} {a b c d : Byte} {rest : List Byte}
    (h : ¬(be16 a b ≤ be16 c d ∧ be16 c d < n)) : zoneRangeOf n (a :: b :: c :: d :: rest) = none := if_neg h

theorem exec_lockRange_badSlot {slot : Byte} {rest : List Byte} {s : State} (h : 8 ≤ slot.toNat) :
    exec (.lockRange (slot :: rest)) s = .next (s.result .range) := by
  show execLockRange (slot :: rest) s = _
  simp [execLockRange, Nat.not_lt.2 h]

theorem exec_lockRange_occupied {slot : Byte} {rest : List Byte} {s : State} (h : slot.toNat < 8)
    (hl : s.zone.lockAt slot.toNat ≠ none) :
    exec (.lockRange (slot :: rest)) s = .next (s.result .locked) := by
  show execLockRange (slot :: rest) s = _
  simp [execLockRange, h, Option.isSome_iff_ne_none.2 hl]

theorem exec_lockRange_badRange {slot : Byte} {rest : List Byte} {s : State} (h : slot.toNat < 8)
    (hl : s.zone.lockAt slot.toNat = none) (hr : zoneRangeOf s.zone.n rest = none) :
    exec (.lockRange (slot :: rest)) s = .next (s.result .range) := by
  show execLockRange (slot :: rest) s = _
  simp [execLockRange, h, hl, hr]

theorem exec_lockRange_taken {slot : Byte} {rest : List Byte} {s : State} {r : ZoneRange} (h : slot.toNat < 8)
    (hl : s.zone.lockAt slot.toNat = none) (hr : zoneRangeOf s.zone.n rest = some r) :
    exec (.lockRange (slot :: rest)) s = .next (State.result .ok
      { s with zone := { s.zone with locks := s.zone.locks.set none slot.toNat (some r) } }) := by
  show execLockRange (slot :: rest) s = _
  simp [execLockRange, h, hl, hr]

/-- A range put into an empty slot locks its zones beside those locked before (R15). -/
theorem ZoneStore.locked_fill_slot {v w : ZoneStore} {slot : Nat} {r : ZoneRange} (hslot : slot < 8)
    (hnone : v.lockAt slot = none) (hw : ∀ k, w.lockAt k = if k = slot then some r else v.lockAt k) (z : Nat) :
    w.locked z = (v.locked z || (r.first ≤ z && z ≤ r.last)) := by
  rw [Bool.eq_iff_iff, Bool.or_eq_true, w.locked_iff, v.locked_iff, Bool.and_eq_true, decide_eq_true_eq,
    decide_eq_true_eq]
  constructor
  · rintro ⟨k, range, hk, hat, hz⟩
    rw [hw] at hat
    split at hat
    · cases hat
      exact .inr hz
    · exact .inl ⟨k, range, hk, hat, hz⟩
  · rintro (⟨k, range, hk, hat, hz⟩ | hz)
    · refine ⟨k, range, hk, ?_, hz⟩
      rw [hw, if_neg]
      · exact hat
      · rintro rfl
        simp [hnone] at hat
    · exact ⟨slot, r, hslot, by rw [hw, if_pos rfl], hz⟩

theorem exec_zoneEnable_refused {params : List Byte} {s : State} (hr : zoneRangeOf s.zone.n params = none) :
    exec (.zoneEnable params) s = .next (s.result .range) := by
  show execZoneEnable params s = _
  simp [execZoneEnable, hr]

theorem exec_zoneEnable_taken {params rest : List Byte} {on : Byte} {s : State} {r : ZoneRange}
    (hr : zoneRangeOf s.zone.n params = some r) (hon : params.drop 4 = on :: rest) :
    exec (.zoneEnable params) s = .next (State.result .ok
      { s with zone := { s.zone with enable := s.zone.enable.fill true r.first r.last (on.getLsbD 0) } }) := by
  show execZoneEnable params s = _
  simp [execZoneEnable, hr, hon]

theorem exec_clearFault_refused {params : List Byte} {s : State} (hr : zoneRangeOf s.zone.n params = none) :
    exec (.clearFault params) s = .next (s.result .range) := by
  show execClearFault params s = _
  simp [execClearFault, hr]

theorem exec_clearFault_taken {params : List Byte} {s : State} {r : ZoneRange}
    (hr : zoneRangeOf s.zone.n params = some r) :
    exec (.clearFault params) s = .next (State.result .ok
      { s with zone := { s.zone with fault := s.zone.fault.fill false r.first r.last false } }) := by
  show execClearFault params s = _
  simp [execClearFault, hr]

/-- Settles O9: each command's checks in their order, and what a taken one writes. -/
theorem zoneCommandsActOnTheirRange : Obligations.ZoneCommandsActOnTheirRange := by
  refine ⟨ZoneStore.locked_iff, fun slot a b c d rest s => ⟨exec_lockRange_badSlot, exec_lockRange_occupied,
      fun hs hl hbad => exec_lockRange_badRange hs hl (zoneRangeOf_eq_none hbad), fun hs hl hab hcd => ?_⟩,
    fun a b c d on rest s => ⟨fun hbad => ⟨exec_zoneEnable_refused (zoneRangeOf_eq_none hbad),
      exec_clearFault_refused (zoneRangeOf_eq_none hbad)⟩, fun hab hcd => ⟨?_, ?_⟩⟩,
    fun g rest s => rfl⟩
  · have hlocked := ZoneStore.locked_fill_slot (v := s.zone) (r := ⟨be16 a b, be16 c d⟩)
      (w := { s.zone with locks := s.zone.locks.set none slot.toNat (some ⟨be16 a b, be16 c d⟩) }) hs hl
      fun k => Store.get_set _ _ _ _ _
    exact ⟨_, exec_lockRange_taken hs hl (zoneRangeOf_eq_some ⟨hab, hcd⟩), fun k => Store.get_set _ _ _ _ _,
      hlocked, rfl⟩
  · exact ⟨_, exec_zoneEnable_taken (zoneRangeOf_eq_some ⟨hab, hcd⟩) rfl,
      fun z => Store.get_fill _ _ _ _ _ _, rfl⟩
  · exact ⟨_, exec_clearFault_taken (zoneRangeOf_eq_some ⟨hab, hcd⟩), fun z => Store.get_fill _ _ _ _ _ _, rfl⟩

/-! ### SET GRID (R2, R3) -/

theorem exec_setGrid_wrongState {params : List Byte} {s : State}
    (h : ¬(s.sup.op = .standby ∧ s.solver.phase = .idle)) :
    exec (.setGrid params) s = .next (s.result .wrongState) := by
  show execSetGrid params s = _
  unfold execSetGrid
  rw [if_neg h]

theorem exec_setGrid_badSize {c r : Byte} {rest : List Byte} {s : State}
    (h : s.sup.op = .standby ∧ s.solver.phase = .idle)
    (hbad : ¬(1 ≤ c.toNat ∧ c.toNat ≤ 64 ∧ 1 ≤ r.toNat ∧ r.toNat ≤ 40)) :
    exec (.setGrid (c :: r :: rest)) s = .next (s.result .range) := by
  show execSetGrid (c :: r :: rest) s = _
  simp only [execSetGrid, if_pos h, if_neg hbad]

theorem exec_setGrid_locked {c r : Byte} {rest : List Byte} {s : State}
    (h : s.sup.op = .standby ∧ s.solver.phase = .idle)
    (hsize : 1 ≤ c.toNat ∧ c.toNat ≤ 64 ∧ 1 ≤ r.toNat ∧ r.toNat ≤ 40) (hl : s.zone.anyLock = true) :
    exec (.setGrid (c :: r :: rest)) s = .next (s.result .locked) := by
  show execSetGrid (c :: r :: rest) s = _
  simp only [execSetGrid, if_pos h, if_pos hsize, if_pos hl]

theorem exec_setGrid_taken {c r : Byte} {rest : List Byte} {s : State}
    (h : s.sup.op = .standby ∧ s.solver.phase = .idle)
    (hsize : 1 ≤ c.toNat ∧ c.toNat ≤ 64 ∧ 1 ≤ r.toNat ∧ r.toNat ≤ 40) (hl : s.zone.anyLock = false) :
    exec (.setGrid (c :: r :: rest)) s = .next (State.result .ok
      { s with
        zone := s.zone.regrid c.toNat r.toNat
        drivers := { s.drivers with entries := ⟨[]⟩ }
        link := s.link.entryGone fun _ => true
        picture := { s.picture with frame := s.picture.frame.afterRegrid } }) := by
  show execSetGrid (c :: r :: rest) s = _
  simp [execSetGrid, h, hsize, hl]

/-- Settles O10: the checks in their order; a taken SET GRID leaves a fresh zone store and an empty driver table. -/
theorem setGridRewritesTheZoneStore : Obligations.SetGridRewritesTheZoneStore := by
  refine fun c r rest s => ⟨exec_setGrid_wrongState, fun hop hidle => exec_setGrid_badSize ⟨hop, hidle⟩,
    fun hop hidle hc hc' hr hr' => ⟨fun hl => exec_setGrid_locked ⟨hop, hidle⟩ ⟨hc, hc', hr, hr'⟩
      (s.zone.anyLock_iff.2 hl), fun hl => ?_⟩⟩
  have hnone : s.zone.anyLock = false := by
    rw [← Bool.not_eq_true, s.zone.anyLock_iff]
    exact fun ⟨slot, hs, hsome⟩ => hsome (hl slot hs)
  refine ⟨_, exec_setGrid_taken ⟨hop, hidle⟩ ⟨hc, hc', hr, hr'⟩ hnone, rfl, rfl, fun z => ⟨rfl, rfl, rfl⟩,
    fun g z => ?_, fun i => rfl, ?_, ?_, rfl, rfl⟩
  · cases g <;> rfl
  · rintro (⟨o, k, hf⟩ | ⟨g, o, k, hf⟩ | ⟨g, a, n, hf⟩) <;> simp [hf, PictureFrame.afterRegrid]
  · rintro (⟨a, hf⟩ | ⟨a, hf⟩) <;> simp [hf, PictureFrame.afterRegrid]

end Sys2Proof.Machine

/-! ## Settings (O48) -/

namespace Sys2Proof.Machine

open Sys2Proof

/-! ### What the parameters carry (R173, R187) -/

theorem budgetOf_short {p : List Byte} (h : p.length < 6) : budgetOf p = none := by
  unfold budgetOf
  split
  · simp only [List.length_cons] at h
    omega
  · rfl

theorem slewOf_short {p : List Byte} (h : p.length < 4) : slewOf p = none := by
  unfold slewOf
  split
  · simp only [List.length_cons] at h
    omega
  · rfl

theorem derateOf_short {p : List Byte} (h : p.length < 5) : derateOf p = none := by
  unfold derateOf
  split
  · simp only [List.length_cons] at h
    omega
  · rfl

theorem scanOf_short {p : List Byte} (h : p.length < 5) : scanOf p = none := by
  unfold scanOf
  split
  · simp only [List.length_cons] at h
    omega
  · rfl

theorem linkOf_short {p : List Byte} (h : p.length < 3) : linkOf p = none := by
  unfold linkOf
  split
  · simp only [List.length_cons] at h
    omega
  · rfl

theorem lossOf_short {p : List Byte} (h : p.length < 3) : lossOf p = none := by
  unfold lossOf
  split
  · simp only [List.length_cons] at h
    omega
  · rfl

theorem zoneRangeOf_short {n : Nat} {p : List Byte} (h : p.length < 4) : zoneRangeOf n p = none := by
  unfold zoneRangeOf
  split
  · simp only [List.length_cons] at h
    omega
  · rfl

theorem writeGainOf_short {n : Nat} {p : List Byte} (h : p.length < 3) : writeGainOf n p = none := by
  unfold writeGainOf
  split
  · simp only [List.length_cons] at h
    omega
  · rfl

/-- A present load of fewer than nine bytes is none (R101). -/
theorem driverLoadOf_short {fields : List Byte} (h : fields.length < 8) : driverLoadOf (1 :: fields) = none := by
  have present : ¬(1 : Byte) = 0 := by decide
  simp only [driverLoadOf, present, if_false, if_true]
  split
  · simp only [List.length_cons] at h
    omega
  · rfl

theorem derateOf_eq (a b c d e : Byte) (rest : List Byte) :
    derateOf (a :: b :: c :: d :: e :: rest) =
      if a.toNat ≤ 190 ∧ b.toNat ≤ 190 ∧ e.toNat ≤ 190 ∧ be16 c d ≤ 4095 ∧ a.toNat < b.toNat then
        some { ts := (a.toNat : Int) - 40, te := (b.toNat : Int) - 40, capmin := be16 c d, ta := (e.toNat : Int) - 40 }
      else none := by
  have hlt : ((a.toNat : Int) - 40 < (b.toNat : Int) - 40) ↔ a.toNat < b.toNat := by omega
  by_cases ha : a.toNat ≤ 190 <;> by_cases hb : b.toNat ≤ 190 <;> by_cases he : e.toNat ≤ 190 <;>
    simp [derateOf, temperatureOf, ha, hb, he, hlt]

/-! ### The commands -/

theorem exec_setBudget_refused {p : List Byte} {s : State} (h : budgetOf p = none) :
    exec (.setBudget p) s = .next (s.result .range) := by
  show execSetBudget p s = _
  rw [execSetBudget, h]

theorem exec_setBudget_taken {p : List Byte} {s : State} {d : Domain} {b : BudgetSetting}
    (h : budgetOf p = some (d, b)) : exec (.setBudget p) s =
      .next (State.result .ok { s with sup := { s.sup with budgets := s.sup.budgets.set d b } }) := by
  show execSetBudget p s = _
  rw [execSetBudget, h]

theorem exec_setSlew_taken {p : List Byte} {s : State} {r f : Nat} (h : slewOf p = some (r, f)) :
    exec (.setSlew p) s = .next (State.result .ok { s with sup := { s.sup with rise := r, fall := f } }) := by
  show execSetSlew p s = _
  rw [execSetSlew, h]

theorem exec_setSlew_refused {p : List Byte} {s : State} (h : slewOf p = none) :
    exec (.setSlew p) s = .next (s.result .range) := by
  show execSetSlew p s = _
  rw [execSetSlew, h]

theorem exec_setDerate_taken {p : List Byte} {s : State} {d : DerateSetting} (h : derateOf p = some d) :
    exec (.setDerate p) s = .next (State.result .ok { s with sup := { s.sup with derate := d } }) := by
  show execSetDerate p s = _
  rw [execSetDerate, h]

theorem exec_setDerate_refused {p : List Byte} {s : State} (h : derateOf p = none) :
    exec (.setDerate p) s = .next (s.result .range) := by
  show execSetDerate p s = _
  rw [execSetDerate, h]

theorem exec_setScan_taken {p : List Byte} {s : State} {g : ScanSetting} (h : scanOf p = some g) :
    exec (.setScan p) s = .next (State.result .ok { s with sup := { s.sup with scan := g } }) := by
  show execSetScan p s = _
  rw [execSetScan, h]

theorem exec_setScan_refused {p : List Byte} {s : State} (h : scanOf p = none) :
    exec (.setScan p) s = .next (s.result .range) := by
  show execSetScan p s = _
  rw [execSetScan, h]

theorem exec_setSlew_eq (a b c d : Byte) (rest : List Byte) (s : State) :
    exec (.setSlew (a :: b :: c :: d :: rest)) s =
      if be16 a b ≤ 4095 ∧ be16 c d ≤ 4095 then
        .next { s with sup := { s.sup with rise := be16 a b, fall := be16 c d, lastResult := .ok } }
      else .next (s.result .range) := by
  split
  · next hr => exact exec_setSlew_taken (p := a :: b :: c :: d :: rest) (if_pos hr)
  · next hr => exact exec_setSlew_refused (p := a :: b :: c :: d :: rest) (if_neg hr)

theorem exec_setDerate_eq (a b c d e : Byte) (rest : List Byte) (s : State) :
    exec (.setDerate (a :: b :: c :: d :: e :: rest)) s =
      if a.toNat ≤ 190 ∧ b.toNat ≤ 190 ∧ e.toNat ≤ 190 ∧ be16 c d ≤ 4095 ∧ a.toNat < b.toNat then
        .next { s with sup := { s.sup with
          derate :=
            { ts := (a.toNat : Int) - 40, te := (b.toNat : Int) - 40, capmin := be16 c d
              ta := (e.toNat : Int) - 40 }
          lastResult := .ok } }
      else .next (s.result .range) := by
  split
  · next hr => exact exec_setDerate_taken ((derateOf_eq a b c d e rest).trans (if_pos hr))
  · next hr => exact exec_setDerate_refused ((derateOf_eq a b c d e rest).trans (if_neg hr))

theorem exec_setScan_eq (n a b c d : Byte) (rest : List Byte) (s : State) :
    exec (.setScan (n :: a :: b :: c :: d :: rest)) s =
      if 1 ≤ n.toNat ∧ n.toNat ≤ 16 ∧ be16 a b ≤ 8000 ∧ be16 c d ≤ 2000 then
        .next { s with sup := { s.sup with
          scan := { bands := n.toNat, base := be16 a b, step := be16 c d }, lastResult := .ok } }
      else .next (s.result .range) := by
  split
  · next hr => exact exec_setScan_taken (p := n :: a :: b :: c :: d :: rest) (if_pos hr)
  · next hr => exact exec_setScan_refused (p := n :: a :: b :: c :: d :: rest) (if_neg hr)

theorem exec_setLink_refused {p : List Byte} {s : State} (h : linkOf p = none) :
    exec (.setLink p) s = .next (s.result .range) := by
  show execSetLink p s = _
  rw [execSetLink, h]

theorem exec_setLoss_refused {p : List Byte} {s : State} (h : lossOf p = none) :
    exec (.setLoss p) s = .next (s.result .range) := by
  show execSetLoss p s = _
  rw [execSetLoss, h]

/-- ZONE ENABLE without its enable byte (R17). -/
theorem exec_zoneEnable_short {p : List Byte} {s : State} (h : p.length < 5) :
    exec (.zoneEnable p) s = .next (s.result .range) := by
  have hdrop : p.drop 4 = [] := List.drop_eq_nil_of_le (by omega)
  show execZoneEnable p s = _
  simp [execZoneEnable, hdrop]

theorem exec_supervisorReadGain_short {p : List Byte} {s : State} (h : p.length < 5) :
    exec (.supervisorReadGain p) s = .next (s.result .range) := by
  show execSupervisorReadGain p s = _
  unfold execSupervisorReadGain
  split
  · simp only [List.length_cons] at h
    omega
  · rfl

theorem exec_supervisorReadMap_short {p : List Byte} {s : State} (h : p.length < 4) :
    exec (.supervisorReadMap p) s = .next (s.result .range) := by
  show execSupervisorReadMap p s = _
  unfold execSupervisorReadMap
  split
  · simp only [List.length_cons] at h
    omega
  · rfl

theorem exec_setGrid_short {p : List Byte} {s : State} (h : s.sup.op = .standby ∧ s.solver.phase = .idle)
    (hp : p.length < 2) : exec (.setGrid p) s = .next (s.result .range) := by
  show execSetGrid p s = _
  unfold execSetGrid
  rw [if_pos h]
  split
  · simp only [List.length_cons] at hp
    omega
  · rfl

theorem exec_loadDriver_refused {p : List Byte} {s : State} (h : s.sup.op = .standby)
    (hp : driverLoadOf (p.drop 1) = none) : exec (.loadDriver p) s = .next (s.result .range) := by
  show execLoadDriver p s = _
  unfold execLoadDriver
  rw [if_pos h, hp]
  cases entryIndexOf p <;> rfl

theorem exec_probe_noIndex {s : State} (h : s.sup.op = .run) : exec (.probe []) s = .next (s.result .range) := by
  show execProbe [] s = _
  simp [execProbe, h, entryIndexOf]

theorem exec_probe_wrongState {p : List Byte} {s : State} (h : s.sup.op ≠ .run) :
    exec (.probe p) s = .next (s.result .wrongState) := by
  show execProbe p s = _
  unfold execProbe
  rw [if_neg h]

/-- Settles O48: a setting is stored from whole parameters, and a command without them is refused. -/
theorem settingsAreStoredClampedOrRefused : Obligations.SettingsAreStoredClampedOrRefused := by
  refine ⟨fun d a b c q r rest s => ⟨fun hd => exec_setBudget_refused (dif_neg (Nat.not_lt.2 hd)), fun hd => ?_⟩,
    ?_, ?_⟩
  · refine ⟨_, exec_setBudget_taken (dif_pos hd), fun x => ?_, rfl⟩
    simp only [State.result_sup, PerDomain.get_set, Fin.ext_iff, be24, be16, Nat.add_mul, Nat.mul_assoc]
  · rintro n a b c d e rest s u rfl
    exact ⟨exec_setSlew_eq a b c d rest s, exec_setDerate_eq a b c d e rest s, exec_setScan_eq n a b c d rest s⟩
  · rintro p s u rfl
    refine ⟨fun h => exec_setBudget_refused (budgetOf_short h),
      fun h => ⟨exec_setSlew_refused (slewOf_short h), exec_clearFault_refused (zoneRangeOf_short h)⟩,
      fun h => ⟨exec_setDerate_refused (derateOf_short h), exec_setScan_refused (scanOf_short h),
        exec_zoneEnable_short h, exec_supervisorReadGain_short h⟩, exec_supervisorReadMap_short,
      fun h => ⟨exec_setLink_refused (linkOf_short h), exec_setLoss_refused (lossOf_short h),
        exec_supervisorWriteGain_refused (writeGainOf_short h)⟩, ?_, ?_, ?_, exec_setGrid_wrongState,
      exec_probe_wrongState, fun h hop => ⟨fun hidle => exec_setGrid_short ⟨hop, hidle⟩ h, ?_⟩⟩
    · rintro rfl
      exact ⟨rfl, rfl, rfl, rfl, exec_probe_noIndex⟩
    · rintro slot rest rfl h
      have hrange : zoneRangeOf s.zone.n rest = none := zoneRangeOf_short (Nat.lt_of_succ_lt_succ h)
      refine ⟨exec_lockRange_occupied, fun hslot => ?_⟩
      by_cases hlt : slot.toNat < 8
      · exact exec_lockRange_badRange hlt (hslot.resolve_left (Nat.not_le.2 hlt)) hrange
      · exact exec_lockRange_badSlot (Nat.not_lt.1 hlt)
    · rintro i fields rfl h hop
      exact exec_loadDriver_refused hop (driverLoadOf_short (Nat.lt_of_succ_lt_succ (Nat.lt_of_succ_lt_succ h)))
    · have hdrop : p.drop 1 = [] := List.drop_eq_nil_of_le (by omega)
      exact exec_loadDriver_refused hop (by rw [hdrop]; rfl)

end Sys2Proof.Machine

/-! ## READ GAIN (O11) -/

namespace Sys2Proof.Machine

open Sys2Proof

/-! ### Fields of two bytes -/

theorem toNat_append_eq_be16 (a b : Byte) : (a ++ b : BitVec 16).toNat = be16 a b := by
  rw [BitVec.toNat_append, ← Nat.shiftLeft_add_eq_or_of_lt b.isLt, Nat.shiftLeft_eq, be16]

/-- The start zone of a read is the low twelve bits of its field (R186). -/
theorem readStart_append (a b : Byte) : readStart (a ++ b) = be16 a b % 4096 := by
  rw [readStart, BitVec.extractLsb'_toNat, Nat.shiftRight_zero]
  exact congrArg (· % 4096) (toNat_append_eq_be16 a b)

/-- A gain is the number in its two bytes (R186). -/
theorem gainBytes_toNat (g : Gain) :
    ((gainBytes g).getD 0 0).toNat * 256 + ((gainBytes g).getD 1 0).toNat = g.toNat := by
  have hg : g.toNat < 2 ^ 11 := g.isLt
  simp [gainBytes, bytes16, byte]
  omega

/-! ### The answers (R14, R164) -/

/-- The gains of a READ GAIN in progress, each from the state in which its first byte begins. -/
theorem pictureByte_readGain {s : State} {g : GainSet} {start count : Nat}
    (h : s.picture.frame = .readGain g start count) (first : State) (i : Nat) :
    s.pictureByte first i =
      if i / 2 < count then
        (gainBytes (first.pictureGain g ((start + i / 2) % first.zone.n))).getD (i % 2) 0
      else 0 := by
  rw [State.pictureByte, h]

theorem pictureGain_toNat (s : State) (g : GainSet) (z : Nat) :
    (s.pictureGain g z).toNat = if s.zone.locked z then 0 else (s.zone.gainAt g z).toNat := by
  unfold State.pictureGain
  split <;> rfl

theorem exec_pictureReadGain_taken {set : Byte} {start count : BitVec 16} {s : State}
    (h : readStart start < s.zone.n ∧ 1 ≤ count.toNat ∧ count.toNat ≤ Config.maxZones) :
    exec (.pictureReadGain set start count false) s =
      .next (s.frame (.readGain (gainSetOf set) (readStart start) count.toNat)) := by
  show execPictureReadGain set start count s false = _
  unfold execPictureReadGain
  rw [if_neg nofun, if_pos h]

theorem exec_pictureReadGain_outOfRange {set : Byte} {start count : BitVec 16} {s : State}
    (h : ¬(readStart start < s.zone.n ∧ 1 ≤ count.toNat ∧ count.toNat ≤ Config.maxZones)) :
    exec (.pictureReadGain set start count false) s = .next (s.frame .nothing) := by
  show execPictureReadGain set start count s false = _
  unfold execPictureReadGain
  rw [if_neg nofun, if_neg h]

theorem exec_supervisorReadGain_eq (set a b c d : Byte) (rest : List Byte) (s : State) :
    exec (.supervisorReadGain (set :: a :: b :: c :: d :: rest)) s = .next
      (if be16 a b < s.zone.n ∧ 1 ≤ be16 c d ∧ be16 c d ≤ Config.maxZones then
        s.fixRecord (.gains ((List.range (be16 c d)).map fun k =>
          s.zone.gainAt (gainSetOf set) ((be16 a b + k) % s.zone.n)))
      else s.result .range) := rfl

/-- Settles O11: the picture answer is read byte by byte from the gains and locks of the state at each first byte; the
supervisor's is a copy. -/
theorem readGainHidesLockedGainsFromThePicturePort : Obligations.ReadGainHidesLockedGainsFromThePicturePort := by
  refine ⟨fun set a b c d rest s => ⟨fun hz hc hc' => ?_, fun hbad => ?_, fun hz hc hc' => ?_, fun hbad => ?_⟩,
    fun g start count first s u hs hu => ⟨fun k hk => ?_, fun i hi => ?_⟩, fun s u i hu => ?_⟩
  · rw [← readStart_append] at hz ⊢
    rw [← toNat_append_eq_be16 c d] at *
    exact exec_pictureReadGain_taken ⟨hz, hc, hc'⟩
  · rw [← readStart_append, ← toNat_append_eq_be16 c d] at hbad
    exact exec_pictureReadGain_outOfRange hbad
  · exact (exec_supervisorReadGain_eq set a b c d rest s).trans (congrArg _ (if_pos ⟨hz, hc, hc'⟩))
  · exact (exec_supervisorReadGain_eq set a b c d rest s).trans (congrArg _ (if_neg hbad))
  · have hhigh : 2 * k / 2 = k := by omega
    have hlow : (2 * k + 1) / 2 = k := by omega
    rw [pictureByte_readGain hs, pictureByte_readGain hu, hhigh, hlow, if_pos hk, if_pos hk, Nat.mul_mod_right,
      Nat.mul_add_mod, gainBytes_toNat, pictureGain_toNat]
    rfl
  · rw [pictureByte_readGain hu, if_neg]
    omega
  · rw [State.pictureByte, hu]

end Sys2Proof.Machine

/-! ## A taken CLOSE FRAME (O12) -/

namespace Sys2Proof.Machine

open Sys2Proof

/-! ### Its record (R22, R23) -/

theorem riseOverride_toNat (x y : Byte) :
    (x ++ y.extractLsb' 4 4 : BitVec 12).toNat = x.toNat * 16 + y.toNat / 16 := by
  have hy : y.toNat < 256 := y.isLt
  rw [BitVec.toNat_append, ← Nat.shiftLeft_add_eq_or_of_lt (y.extractLsb' 4 4).isLt, Nat.shiftLeft_eq,
    BitVec.extractLsb'_toNat, Nat.shiftRight_eq_div_pow]
  omega

theorem fallOverride_toNat (y z : Byte) :
    (y.extractLsb' 0 4 ++ z : BitVec 12).toNat = y.toNat % 16 * 256 + z.toNat := by
  rw [BitVec.toNat_append, ← Nat.shiftLeft_add_eq_or_of_lt z.isLt, Nat.shiftLeft_eq, BitVec.extractLsb'_toNat,
    Nat.shiftRight_zero]

theorem closeRecordOf_plain {c : Byte} {rest : List Byte} (h : c.getLsbD 5 = false) :
    closeRecordOf (c :: rest) =
      some ⟨c.getLsbD 7, c.getLsbD 6, none, (windowsOf (c.extractLsb' 2 3).toNat rest).take 4⟩ := by
  have h' : ¬c.getLsbD 5 = true := by simpa using h
  simp only [closeRecordOf, if_neg h']

theorem closeRecordOf_override {c x y z : Byte} {more : List Byte} (h : c.getLsbD 5 = true) :
    closeRecordOf (c :: x :: y :: z :: more) =
      some ⟨c.getLsbD 7, c.getLsbD 6, some (x.toNat * 16 + y.toNat / 16, y.toNat % 16 * 256 + z.toNat),
        (windowsOf (c.extractLsb' 2 3).toNat more).take 4⟩ := by
  rw [closeRecordOf, h, ← riseOverride_toNat, ← fallOverride_toNat]
  rfl

/-- A record with its whole control fields. -/
theorem closeRecordOf_whole {c : Byte} {rest : List Byte} (h : c.getLsbD 5 = true → 3 ≤ rest.length) :
    ∃ r, closeRecordOf (c :: rest) = some r ∧ r.epoch = c.getLsbD 7 ∧ r.sceneCut = c.getLsbD 6
      ∧ (c.getLsbD 5 = false →
          r.overrides = none ∧ r.windows = (windowsOf (c.extractLsb' 2 3).toNat rest).take 4)
      ∧ (c.getLsbD 5 = true → ∀ x y z more, rest = x :: y :: z :: more →
          r.overrides = some (x.toNat * 16 + y.toNat / 16, y.toNat % 16 * 256 + z.toNat)
          ∧ r.windows = (windowsOf (c.extractLsb' 2 3).toNat more).take 4) := by
  cases hc : c.getLsbD 5 with
  | false => exact ⟨_, closeRecordOf_plain hc, rfl, rfl, fun _ => ⟨rfl, rfl⟩, nofun⟩
  | true =>
    match rest, h hc with
    | x :: y :: z :: more, _ =>
      refine ⟨_, closeRecordOf_override hc, rfl, rfl, nofun, fun _ x' y' z' more' he => ?_⟩
      cases he
      exact ⟨rfl, rfl⟩

/-! ### The snapshot (R24) -/

theorem DriverTable.mem_snapshot {d : DriverTable} {x : SnapEntry} :
    x ∈ d.snapshot ↔
      ∃ i e, i < 48 ∧ d.entryAt i = some e ∧ x = ⟨i, e.tile, e.domain, decide (e.state = .unreachable)⟩ := by
  simp only [DriverTable.snapshot, List.mem_map, Prod.exists, DriverTable.mem_present, and_assoc, eq_comm (a := x)]

/-- The end of a round bears on no entry's identity or state. -/
theorem DriverTable.mem_snapshot_endRound {d : DriverTable} {x : SnapEntry} :
    x ∈ d.endRound.snapshot ↔ x ∈ d.snapshot := by
  have hentry (i : Nat) : d.endRound.entryAt i = (d.entryAt i).map DriverEntry.roundCleared :=
    DriverTable.entryAt_mapEntries _ _ _
  simp only [DriverTable.mem_snapshot, hentry, Option.map_eq_some_iff]
  constructor
  · rintro ⟨i, _, hi, ⟨e, he, rfl⟩, hx⟩
    exact ⟨i, e, hi, he, hx⟩
  · rintro ⟨i, e, hi, he, hx⟩
    exact ⟨i, _, hi, ⟨e, he, rfl⟩, hx⟩

theorem State.mem_snapshot_replaceWork {s : State} {x : SnapEntry} :
    x ∈ s.replaceWork.drivers.snapshot ↔ x ∈ s.drivers.snapshot := by
  unfold State.replaceWork
  split
  · split
    · exact DriverTable.mem_snapshot_endRound
    · exact Iff.rfl
  · exact Iff.rfl

/-- Of the supervisor port's state, the replaced work bears on the flags alone (R43, R44). -/
theorem State.replaceWork_sup (s : State) : s.replaceWork.sup = { s.sup with flags := s.replaceWork.sup.flags } := by
  unfold State.replaceWork
  split
  · split <;> rfl
  · rfl

theorem exec_closeFrame_taken {record : List Byte} {r : CloseRecord} {s : State} (hrun : s.sup.op = .run)
    (hopen : s.zone.storeOpen = true) (hr : closeRecordOf record = some r) :
    exec (.closeFrame record false) s =
      .next ((s.replaceWork.startSolve .picture (s.pictureParams r) r.epoch).frame .nothing) := by
  show execCloseFrame record s false = _
  simp [execCloseFrame, hr, hrun, hopen]

/-- Settles O12: a taken CLOSE FRAME is the replacement of the work before it and the start of a picture solve. -/
theorem closeFrameStartsAPictureSolve : Obligations.CloseFrameStartsAPictureSolve := by
  intro c rest s hrun hopen hwhole
  obtain ⟨r, hr, hepoch, hcut, hplain, hover⟩ := closeRecordOf_whole hwhole
  have hbanks : s.replaceWork.banks = s.banks := by simp
  have hzone : s.replaceWork.zone = s.zone := by simp
  have htiming : s.replaceWork.timing = s.timing := by simp
  have hwindows (l : List Window) (h : r.windows = l) :
      (s.pictureParams r).windows = l.filterMap (clipWindow s.zone.cols s.zone.rows) := by rw [← h]; rfl
  refine ⟨_, exec_closeFrame_taken hrun hopen hr, ?_, ?_, rfl, rfl, rfl, rfl, by simp [State.startSolve],
    fun d => by simp [State.startSolve], rfl, rfl, hcut, fun hc => ?_, fun hc x y z more hrest => ?_,
    fun x => State.mem_snapshot_replaceWork.trans DriverTable.mem_snapshot, htiming, ?_, ?_, ?_, rfl, ?_⟩
  · simp
  · rw [← hepoch]
    simp only [State.frame_banks, State.startSolve, hbanks, htiming, Tag.next]
    by_cases hf : s.timing.freeRun = .off <;> simp [hf]
  · obtain ⟨hno, hw⟩ := hplain hc
    refine ⟨?_, ?_, hwindows _ hw⟩ <;> simp [State.startSolve, State.pictureParams, hno]
  · obtain ⟨hsome, hw⟩ := hover hc x y z more hrest
    refine ⟨?_, ?_, hwindows _ hw⟩ <;> simp [State.startSolve, State.pictureParams, hsome]
  · simp
  · simp
  · simp
  · exact s.replaceWork_sup

end Sys2Proof.Machine

/-! ## Pass 1 and the factor step (O15, O16) -/

namespace Sys2Proof.Machine

open Sys2Proof

/-! ### Focus and owner (R28, R52) -/

theorem Solver.inFocus_iff {v : Solver} {cols z : Nat} :
    v.inFocus cols z = true ↔ ∃ w ∈ v.params.windows,
      w.firstCol ≤ z % cols ∧ z % cols ≤ w.lastCol ∧ w.firstRow ≤ z / cols ∧ z / cols ≤ w.lastRow := by
  simp [Solver.inFocus, Window.contains, and_assoc]

/-- With tiles that share no zone, the owner is the one entry whose tile contains the zone. -/
theorem Solver.ownerOf_eq_some_iff {v : Solver}
    (hapart : ∀ a ∈ v.snapshot, ∀ b ∈ v.snapshot, a ≠ b →
      ∀ x y, ¬(a.tile.contains x y = true ∧ b.tile.contains x y = true)) {cols z : Nat} {e : SnapEntry} :
    v.ownerOf cols z = some e ↔ e ∈ v.snapshot ∧ e.tile.contains (z % cols) (z / cols) = true := by
  constructor
  · intro h
    exact ⟨List.mem_of_find?_eq_some h, by simpa using List.find?_some h⟩
  · rintro ⟨hmem, hin⟩
    cases hown : v.ownerOf cols z with
    | none => exact absurd hin (List.find?_eq_none.1 hown e hmem)
    | some a =>
      have ha : a.tile.contains (z % cols) (z / cols) = true := by simpa using List.find?_some hown
      by_contra hne
      exact hapart a (List.mem_of_find?_eq_some hown) e hmem (fun he => hne (congrArg some he)) _ _ ⟨ha, hin⟩

theorem Tile.contains_iff {t : Tile} {c r : Nat} :
    t.contains c r = true ↔ t.col ≤ c ∧ c < t.col + t.width ∧ t.row ≤ r ∧ r < t.row + t.height := by
  simp [Tile.contains, and_assoc]

/-! ### The class of a zone (R29) -/

theorem State.classify_carried {s : State} {z : Nat} {e : SnapEntry} (ho : s.solver.ownerOf s.zone.cols z = some e)
    (hu : e.unreachable = true) : s.classify z = .carried e := by
  simp [State.classify, ho, hu]

theorem State.classify_inactive {s : State} {z : Nat}
    (h : s.solver.ownerOf s.zone.cols z = none
      ∨ (∃ e, s.solver.ownerOf s.zone.cols z = some e ∧ e.unreachable = false)
        ∧ (s.zone.enabled z = false ∨ s.zone.faulty z = true)) : s.classify z = .inactive := by
  rcases h with ho | ⟨⟨e, ho, hu⟩, hoff⟩
  · simp [State.classify, ho]
  · simp [State.classify, ho, hu, hoff]

theorem State.classify_active {s : State} {z : Nat} {e : SnapEntry} (ho : s.solver.ownerOf s.zone.cols z = some e)
    (hu : e.unreachable = false) (hon : s.zone.enabled z = true) (hok : s.zone.faulty z = false) :
    s.classify z = .active e := by
  simp [State.classify, ho, hu, hon, hok]

/-- One domain's value rewritten from itself. -/
theorem PerDomain.get_set_self {α : Type} (m : PerDomain α) (k d : Domain) (f : α → α) :
    (m.set k (f (m.get k))).get d = if d = k then f (m.get d) else m.get d := by
  rw [PerDomain.get_set]
  split
  · next h => rw [h]
  · rfl

/-- What pass 1 writes for a carried zone (R30). -/
theorem State.pass1_carried {s : State} {z : Nat} {e : SnapEntry} (h : s.classify z = .carried e) :
    s.pass1Record z =
        { s.banks.active.zone z with
          held := true, inactive := false, fault := s.zone.faulty z, focus := s.solver.inFocus s.zone.cols z }
      ∧ ∀ d, (s.pass1Sums z).get d =
          if d = e.domain then
            { s.solver.sums.get d with carried := (s.solver.sums.get d).carried + (s.banks.active.zone z).level }
          else s.solver.sums.get d := by
  refine ⟨by rw [State.pass1Record, h], fun d => ?_⟩
  rw [State.pass1Sums, h]
  exact PerDomain.get_set_self s.solver.sums e.domain d fun x => x.add (s.banks.active.zone z).level 0 0 0

/-- What pass 1 writes for an inactive zone (R31). -/
theorem State.pass1_inactive {s : State} {z : Nat} (h : s.classify z = .inactive) :
    s.pass1Record z =
        { level := 0, slewed := 0, residual := 0, code := 0, held := false, inactive := true
          fault := s.zone.faulty z, focus := s.solver.inFocus s.zone.cols z }
      ∧ s.pass1Sums z = s.solver.sums := by
  rw [State.pass1Record, State.pass1Sums, h]
  exact ⟨rfl, rfl⟩

/-- What pass 1 adds for an active zone (R36). -/
theorem State.pass1Sums_active {s : State} {z : Nat} {e : SnapEntry} (h : s.classify z = .active e) (d : Domain) :
    (s.pass1Sums z).get d =
      if d = e.domain then
        (if s.solver.inFocus s.zone.cols z then
          { s.solver.sums.get d with focus := (s.solver.sums.get d).focus + s.cappedFor e z }
        else { s.solver.sums.get d with nonFocus := (s.solver.sums.get d).nonFocus + s.cappedFor e z })
      else s.solver.sums.get d := by
  rw [State.pass1Sums, h]
  dsimp only
  split
  · exact PerDomain.get_set_self s.solver.sums e.domain d fun x => x.add 0 (s.cappedFor e z) 0 0
  · exact PerDomain.get_set_self s.solver.sums e.domain d fun x => x.add 0 0 (s.cappedFor e z) 0

/-- The demand of a picture solve is the bank's, that of a loss solve the loss level (R25, R27). -/
theorem State.demandFor_eq (s : State) (z : Nat) :
    s.demandFor z =
      if s.solver.kind = .picture then (s.zone.demandAt z).toNat else s.solver.params.lossLevel := by
  unfold State.demandFor
  cases s.solver.kind <;> rfl

/-! ### The step of pass 1 (R36, R37) -/

/-- Pass 1 has handled the cursor's zone. -/
def State.pass1Step (s : State) : State :=
  let last := decide (s.solver.cursor + 1 = s.zone.n)
  { s.reach (s.solver.startTime + zoneTime s.zone.n s.solver.cursor) with
    solver :=
      { s.solver with
        sums := s.pass1Sums s.solver.cursor
        phase := if last then .factor else .pass1
        cursor := if last then 0 else s.solver.cursor + 1
        inputs := if last then s.factorInputs else s.solver.inputs }
    banks := { s.banks with
      pendingBank := s.banks.pendingBank.putZone s.solver.cursor (s.pass1Record s.solver.cursor) }
    zone := { s.zone with storeOpen := s.zone.storeOpen || (last && decide (s.solver.kind = .picture)) } }

theorem exec_pass1Zone {s : State} (hp : s.solver.phase = .pass1) (hc : s.solver.cursor < s.zone.n) :
    exec .pass1Zone s = .next s.pass1Step := by
  show execPass1Zone s = _
  rw [execPass1Zone, if_pos ⟨hp, hc⟩]
  rfl

theorem State.pass1Step_now (s : State) :
    s.pass1Step.now = max s.now (s.solver.startTime + zoneTime s.zone.n s.solver.cursor) := rfl

theorem State.pass1Step_zone_record (s : State) (y : Nat) :
    s.pass1Step.banks.pendingBank.zone y =
      if y = s.solver.cursor then s.pass1Record s.solver.cursor else s.banks.pendingBank.zone y :=
  Bank.zone_putZone _ _ _ _

/-- Settles O15: pass 1 at a zone of each class. -/
theorem pass1HandlesAZoneByItsClass : Obligations.Pass1HandlesAZoneByItsClass := by
  refine ⟨fun v cols z => ⟨Solver.inFocus_iff, fun hapart e => ?_⟩, fun s hp hc => ?_⟩
  · rw [Solver.ownerOf_eq_some_iff hapart, Tile.contains_iff]
  · have hrecord : s.pass1Step.banks.pendingBank.zone s.solver.cursor = s.pass1Record s.solver.cursor := by
      rw [State.pass1Step_zone_record, if_pos rfl]
    refine ⟨_, exec_pass1Zone hp hc, fun y hy => ?_, fun e ho hu => ?_, fun hin => ?_,
      fun e demand slewed capped ho hu hon hok hdemand hslewed hcapped => ?_, rfl⟩
    · rw [State.pass1Step_zone_record, if_neg hy]
    · rw [hrecord]
      exact State.pass1_carried (State.classify_carried ho hu)
    · rw [hrecord]
      exact State.pass1_inactive (State.classify_inactive hin)
    · have hclass := State.classify_active ho hu hon hok
      have hs : slewed = s.slewedFor s.solver.cursor := by
        rw [hslewed, hdemand, State.slewedFor, State.demandFor_eq]
      have hcap : capped = s.cappedFor e s.solver.cursor := by rw [hcapped, hs, State.cappedFor]
      rw [hrecord, State.pass1Record, hclass, hs, hcap]
      exact ⟨rfl, rfl, rfl, rfl, rfl, rfl, State.pass1Sums_active hclass⟩

/-! ### From pass 1 to pass 2 (R20, R37) -/

theorem zoneTime_of_lt {n i : Nat} (h : i + 1 < n) : zoneTime n i = i / 32 := if_pos h

theorem zoneTime_last {n i : Nat} (h : i + 1 = n) : zoneTime n i = (n + 31) / 32 :=
  if_neg (Nat.not_lt.2 h.ge)

theorem exec_factorStep {s : State} (h : s.solver.phase = .factor) :
    exec .factorStep s = .next
      { s.reach (s.solver.startTime + passTime s.zone.n + 1) with
        solver :=
          { s.solver with
            phase := .pass2
            cursor := 0
            factors := .of fun d => domainFactors (s.solver.inputs.get d) (s.solver.sums.get d) } } := by
  show execFactorStep s = _
  rw [execFactorStep, if_pos h]

/-- Settles O16: pass 1 short of the last zone and at it, and the factor step. -/
theorem pass1LeadsToTheFactorStep : Obligations.Pass1LeadsToTheFactorStep := by
  refine ⟨fun s t hp hc h => ?_, fun s hp => ?_⟩
  · rw [exec_pass1Zone hp hc] at h
    cases h
    refine ⟨fun hlt => ?_, fun hlast => ?_⟩
    · have hnot : decide (s.solver.cursor + 1 = s.zone.n) = false := decide_eq_false (Nat.ne_of_lt hlt)
      refine ⟨by simp [State.pass1Step, hnot], by simp [State.pass1Step, hnot], by simp [State.pass1Step, hnot], ?_⟩
      rw [State.pass1Step_now, show zoneTime s.zone.n s.solver.cursor = _ from zoneTime_of_lt hlt]
    · have hyes : decide (s.solver.cursor + 1 = s.zone.n) = true := decide_eq_true hlast
      refine ⟨by simp [State.pass1Step, hyes], ?_, fun hk => ?_, fun hk => ?_, fun d => ?_⟩
      · rw [State.pass1Step_now, show zoneTime s.zone.n s.solver.cursor = _ from zoneTime_last hlast]
        rfl
      · simp [State.pass1Step, hyes, hk]
      · simp [State.pass1Step, hyes, hk]
      · simp [State.pass1Step, hyes, State.factorInputs]
  · exact ⟨_, exec_factorStep hp, fun d => by simp, rfl⟩

end Sys2Proof.Machine

/-! ## The resets (O52, O53) -/

namespace Sys2Proof.Machine

open Sys2Proof

/-! ### Power-on reset (R184) -/

/-- Settles O53: the reset contents of every block, and the PENDING records as they were. -/
theorem powerOnResetRestoresEveryBlock : Obligations.PowerOnResetRestoresEveryBlock := by
  intro straps fsync hold kill s
  have hlock (k : Nat) : ZoneStore.reset.lockAt k = none := rfl
  have hlocked (z : Nat) : ZoneStore.reset.locked z = false :=
    (ZoneStore.locked_eq_false_iff _ z).2 fun slot range _ h => by simp [hlock] at h
  have hall {α : Type} (v : α) (d : Domain) : (PerDomain.all v).get d = v := PerDomain.get_all v d
  exact ⟨_, rfl, rfl, rfl, rfl, rfl, fun z => ⟨rfl, rfl, rfl, rfl, rfl, hlocked z⟩, hlock, rfl, rfl, hall _,
    fun z => rfl, hall _, rfl, rfl, fun z => rfl, fun d => rfl, rfl, rfl, rfl, rfl, rfl, rfl, rfl, rfl, fun i => rfl,
    rfl, rfl, rfl, rfl, rfl, rfl, rfl, rfl, rfl, rfl, rfl, rfl, rfl, rfl, rfl, rfl, fun i => rfl, rfl, rfl, rfl, rfl,
    rfl, rfl, rfl, rfl, hall _, rfl, rfl, rfl, rfl, rfl, rfl, rfl, rfl, rfl, rfl, rfl, rfl⟩

/-! ### SOFT RESET (R183) -/

/-- After a SOFT RESET no work is left to end in the driver table. -/
theorem State.endWork_softReset (s : State) : s.softReset.drivers.endWork = s.softReset.drivers := by
  simp only [State.softReset, DriverTable.endWork, DriverTable.endRound, DriverTable.mapEntries, List.map_map]
  congr 3
  funext c
  simp only [Function.comp, Option.map_map]
  rfl

/-- Nor is there a message to quench: no claim is left, and the one BLANK is queued. -/
theorem Link.quench_softReset (l : Link) : l.softReset.quench = l.softReset := by
  cases hl : l.line <;> simp [Link.quench, Link.softReset, Link.withdraw, hl]

theorem State.endOperations_softReset (s : State) : s.softReset.endOperations = s.softReset := by
  have hlink : s.softReset.link.quench = s.softReset.link := s.link.quench_softReset
  rw [State.endOperations, State.endWork_softReset, hlink]
  rfl

/-- A safety entry right after a SOFT RESET: SAFE, HELD and the one KILL record (R181, R183). -/
theorem State.safetyEntry_softReset (s : State) :
    s.softReset.safetyEntry =
      { s.softReset with
        sup := { s.softReset.sup with op := .safe, latch := .held }
        events := ⟨[⟨.kill, none, none, none, 1, ⟨false, 0⟩⟩], false⟩ } := by
  rw [State.safetyEntry, State.endOperations_softReset]
  rfl

theorem exec_softReset_kill_high {params : List Byte} {s : State} (h : s.sup.kill = true) :
    exec (.softReset params) s = .next s.softReset := by
  show execSoftReset params s = _
  rw [execSoftReset, if_pos h]

theorem exec_softReset_kill_low {params : List Byte} {s : State} (h : s.sup.kill = false) :
    exec (.softReset params) s = .next s.softReset.safetyEntry := by
  show execSoftReset params s = _
  rw [execSoftReset, if_neg (by simp [h])]

/-- A message in flight loses its claim (R142). -/
theorem Link.softReset_line_message {l : Link} {m : InFlight} (h : l.line = .message m) :
    l.softReset.line = .message { m with claim := false } := by
  simp [Link.softReset, Link.withdraw, h]

theorem Link.softReset_line_of_ne {l : Link} (h : ∀ m, l.line ≠ .message m) : l.softReset.line = l.line := by
  unfold Link.softReset Link.withdraw
  dsimp only
  split
  · next m hm => exact absurd hm (h m)
  · rfl

/-! ### A frame that a reset cuts (R160) -/

theorem pictureFrameReset_closeFrame (before after : List Byte) (reset : Instr) :
    pictureFrameReset (0x2C :: before) after reset = [reset, .closeFrame (before ++ after) true] := rfl

theorem pictureFrameReset_writeDemand (h l : Byte) (before after : List Byte) (reset : Instr) :
    pictureFrameReset (0x21 :: h :: l :: before) after reset =
      (.writeDemand (h ++ l) false :: (demandValues before).map .demandValue) ++ reset ::
        ((demandValues (before ++ after)).drop (demandValues before).length).map .demandValue := by
  have hwhole (values : List Byte) : pictureFrame (0x21 :: h :: l :: values) =
      Instr.writeDemand (h ++ l) false :: (demandValues values).map .demandValue := rfl
  have hopen : pictureFrameOpen (0x21 :: h :: l :: before) =
      Instr.writeDemand (h ++ l) false :: (demandValues before).map .demandValue := by
    rw [pictureFrameOpen, hwhole]
    simp
  rw [pictureFrameReset, hopen, show 0x21 :: h :: l :: before ++ after = 0x21 :: h :: l :: (before ++ after) from rfl,
    hwhole]
  simp [← List.map_drop, Function.comp_def, Instr.cutByReset]

theorem pictureFrameReset_writeGain (a b h l : Byte) (after : List Byte) (reset : Instr) :
    pictureFrameReset [0x61, b, h] (l :: a :: after) reset =
      reset :: .pictureWriteGain b (h ++ l) true :: (gainWords (a :: after)).map .pictureGainValue := by
  have hwhole : pictureFrame (0x61 :: b :: h :: l :: a :: after) =
      Instr.pictureWriteGain b (h ++ l) false :: (gainWords (a :: after)).map .pictureGainValue := rfl
  have hopen : pictureFrameOpen [0x61, b, h] = [] := rfl
  rw [pictureFrameReset, hopen, show [0x61, b, h] ++ l :: a :: after = 0x61 :: b :: h :: l :: a :: after from rfl,
    hwhole]
  simp [Function.comp_def, Instr.cutByReset]

/-- Settles O52: the reset contents beside the kept settings; with KILL low a safety entry on them; and a frame cut. -/
theorem softResetKeepsTheSettings : Obligations.SoftResetKeepsTheSettings := by
  refine ⟨fun params s hk => ⟨_, exec_softReset_kill_high hk, rfl, rfl, fun z => rfl, rfl, rfl, rfl,
      fun d => PerDomain.get_all _ _, fun z => rfl, fun d => PerDomain.get_all _ _, rfl, rfl, rfl, rfl, rfl,
      fun i => ?_, rfl, rfl, rfl, rfl, fun i => rfl, rfl, rfl, rfl, rfl, rfl, fun m => Link.softReset_line_message,
      Link.softReset_line_of_ne, rfl, rfl, rfl, rfl, rfl, rfl⟩,
    fun params s u hk hu => ?_, fun set bank p first count record c s hc => ?_,
    fun a b h l before after reset => ⟨pictureFrameReset_closeFrame before after reset,
      pictureFrameReset_writeDemand h l before after reset, pictureFrameReset_writeGain a b h l after reset⟩⟩
  · exact DriverTable.entryAt_mapEntries _ _ _
  · rw [exec_softReset_kill_high rfl] at hu
    cases hu
    rw [exec_softReset_kill_low hk, State.safetyEntry_softReset]
    show Host.Outcome.next _ = Host.Outcome.next { s.softReset with
      sup := { s.softReset.sup with op := .safe, latch := .held, kill := false }
      events := ⟨[⟨.kill, none, none, none, 1, ⟨false, 0⟩⟩], false⟩ }
    rw [← hk]
    rfl
  · simp only [List.mem_cons, List.not_mem_nil, or_false] at hc
    rcases hc with rfl | rfl | rfl | rfl | rfl | rfl <;> rfl

end Sys2Proof.Machine

/-! ## The stages of a solve (O18) -/

namespace Sys2Proof.Machine

open Sys2Proof

/-! ### Calibrate (R32) -/

/-- A demand at unity gain is left as it is. -/
theorem calibrate_unity {d : Nat} (h : d ≤ 4095) : calibrate d 1024 = d := by
  have hround : (d * 1024 + 512) / 1024 = d := by omega
  rw [calibrate, hround, Nat.min_eq_right h]

theorem calibrate_zero (d : Nat) : calibrate d 0 = 0 := by simp [calibrate]

/-! ### Slew (R33, R34) -/

theorem slewTo_rise {c prev : Nat} (ru rd : Nat) (h : prev < c) : slewTo c prev ru rd = min c (prev + ru) := if_pos h

theorem slewTo_fall {c prev : Nat} (ru rd : Nat) (h : c < prev) : slewTo c prev ru rd = max c (prev - rd) :=
  (if_neg h.not_gt).trans (if_pos h)

theorem slewTo_self (c ru rd : Nat) : slewTo c c ru rd = c :=
  (if_neg (lt_irrefl c)).trans (if_neg (lt_irrefl c))

/-- A slewed level rises by at most the rise limit and falls by at most the fall limit. -/
theorem slewTo_within (c prev ru rd : Nat) : slewTo c prev ru rd ≤ prev + ru ∧ prev ≤ slewTo c prev ru rd + rd := by
  rcases lt_trichotomy prev c with h | rfl | h
  · rw [slewTo_rise ru rd h]
    omega
  · rw [slewTo_self]
    omega
  · rw [slewTo_fall ru rd h]
    omega

theorem slewStage_sceneCut {p : SolveParams} (h : p.sceneCut = true) (c prev : Nat) : slewStage p c prev = c := if_pos h

theorem slewStage_eq {p : SolveParams} (h : p.sceneCut = false) (c prev : Nat) :
    slewStage p c prev = slewTo c prev (min 4095 (p.rise * p.tf / 8333)) (min 4095 (p.fall * p.tf / 8333)) :=
  if_neg (by simp [h])

/-! ### Dither (R39) -/

/-- Code and residual keep the whole level where the code is not saturated. -/
theorem dither_keeps {a r : Nat} (h : a + r ≤ 4095) : 4 * (dither a r).1 + (dither a r).2 = a + r := by
  rw [dither, if_neg (by omega)]
  dsimp only
  omega

theorem dither_saturated {a r : Nat} (h : 4096 ≤ a + r) : dither a r = (1023, 0) := if_pos (by omega)

/-- Settles O18: the formula and the range of each stage. -/
theorem stagesComputeTheirFormulas : Obligations.StagesComputeTheirFormulas := by
  refine ⟨fun d g => ⟨rfl, calibrate_le d g, calibrate_unity, calibrate_zero d⟩,
    fun p c prev => ⟨fun hcut => slewStage_sceneCut hcut c prev, fun hcut => ?_⟩,
    fun a r _ _ => ⟨dither_keeps, dither_saturated, dither_le a r⟩⟩
  rw [slewStage_eq hcut]
  refine ⟨slewTo_rise _ _, slewTo_fall _ _, ?_, slewTo_within _ _ _ _⟩
  rintro rfl
  exact slewTo_self c _ _

end Sys2Proof.Machine

/-! ## Focus windows (O14) -/

namespace Sys2Proof.Machine

open Sys2Proof

/-- Four bytes are a window of their own, and the windows after it are those of the bytes after them. -/
theorem windowsOf_cons (n : Nat) (a b c d : Byte) (rest : List Byte) :
    windowsOf (n + 1) (a :: b :: c :: d :: rest) = ⟨a.toNat, b.toNat, c.toNat, d.toNat⟩ :: windowsOf n rest := rfl

/-- Fewer than four bytes are no window. -/
theorem windowsOf_short (n : Nat) {bytes : List Byte} (h : bytes.length < 4) : windowsOf n bytes = [] := by
  unfold windowsOf
  split
  · simp only [List.length_cons] at h
    omega
  · rfl

/-- As many windows as are announced, or as the bytes make whole (R23). -/
theorem length_windowsOf (n : Nat) (bytes : List Byte) : (windowsOf n bytes).length = min n (bytes.length / 4) := by
  induction n generalizing bytes with
  | zero => simp [windowsOf]
  | succ n ih =>
    match bytes with
    | a :: b :: c :: d :: rest =>
      rw [windowsOf_cons, List.length_cons, ih]
      simp only [List.length_cons]
      omega
    | [] | [_] | [_, _] | [_, _, _] => rw [windowsOf_short] <;> simp

/-- The bytes from the `4 * k`-th on are the corners of window `k` (R23). -/
theorem getElem?_windowsOf {n k : Nat} {bytes : List Byte} {w : Window} (h : (windowsOf n bytes)[k]? = some w) :
    (bytes[4 * k]?).map BitVec.toNat = some w.firstCol ∧ (bytes[4 * k + 1]?).map BitVec.toNat = some w.firstRow
      ∧ (bytes[4 * k + 2]?).map BitVec.toNat = some w.lastCol
      ∧ (bytes[4 * k + 3]?).map BitVec.toNat = some w.lastRow := by
  induction k generalizing n bytes with
  | zero =>
    match n, bytes with
    | n + 1, a :: b :: c :: d :: rest =>
      cases h
      exact ⟨rfl, rfl, rfl, rfl⟩
  | succ k ih =>
    match n, bytes with
    | n + 1, a :: b :: c :: d :: rest => exact ih (n := n) (bytes := rest) h

/-- A window with its corners crossed, or wholly outside the grid, is ignored (R51). -/
theorem clipWindow_eq_none_iff {cols rows : Nat} {w : Window} :
    clipWindow cols rows w = none ↔
      w.lastCol < w.firstCol ∨ w.lastRow < w.firstRow ∨ cols ≤ w.firstCol ∨ rows ≤ w.firstRow := by
  unfold clipWindow
  split
  · next hcrossed => exact iff_of_true rfl (hcrossed.elim .inl (.inr ∘ .inl))
  · split
    · next hout => exact iff_of_true rfl (.inr (.inr hout))
    · next hcrossed hout => exact iff_of_false nofun (by omega)

/-- A window is clipped to its zones inside the grid (R51). -/
theorem contains_clipWindow {cols rows : Nat} {w v : Window} (h : clipWindow cols rows w = some v) (c r : Nat) :
    v.contains c r = true ↔
      c < cols ∧ r < rows ∧ w.firstCol ≤ c ∧ c ≤ w.lastCol ∧ w.firstRow ≤ r ∧ r ≤ w.lastRow := by
  have hkept : clipWindow cols rows w ≠ none := by simp [h]
  rw [Ne, clipWindow_eq_none_iff] at hkept
  have hv : v = ⟨w.firstCol, w.firstRow, min w.lastCol (cols - 1), min w.lastRow (rows - 1)⟩ := by
    rw [clipWindow, if_neg (by omega), if_neg (by omega)] at h
    exact (Option.some.inj h).symm
  simp only [hv, Window.contains, Bool.and_eq_true, decide_eq_true_eq]
  omega

/-- Settles O14: the complete windows of a record, and what the grid leaves of each. -/
theorem windowsAreReadWholeAndClipped : Obligations.WindowsAreReadWholeAndClipped :=
  ⟨fun n bytes => ⟨length_windowsOf n bytes, fun _ _ => getElem?_windowsOf⟩,
    fun _ _ _ => ⟨clipWindow_eq_none_iff, fun _ => contains_clipWindow⟩⟩

end Sys2Proof.Machine

/-! ## What a CLOSE FRAME refuses and replaces (O13) -/

namespace Sys2Proof.Machine

open Sys2Proof

/-! ### Its refusal (R22) -/

theorem closeRecordOf_noOverrides {c : Byte} {rest : List Byte} (hc : c.getLsbD 5 = true) (hrest : rest.length < 3) :
    closeRecordOf (c :: rest) = none := by
  match rest with
  | [] | [_] | [_, _] => simp [closeRecordOf, hc]
  | _ :: _ :: _ :: more =>
    simp only [List.length_cons] at hrest
    omega

theorem exec_closeFrame_refused {record : List Byte} {s : State}
    (h : s.sup.op ≠ .run ∨ s.zone.storeOpen = false ∨ closeRecordOf record = none) :
    exec (.closeFrame record false) s = .next ((s.raise .closeRefused).frame .nothing) := by
  show execCloseFrame record s false = _
  unfold execCloseFrame
  rw [if_neg nofun]
  split
  · next r hr =>
    rw [if_neg]
    rintro ⟨hrun, hopen⟩
    rcases h with h | h | h
    · exact h hrun
    · simp [hopen] at h
    · simp [hr] at h
  · rfl

/-! ### The work that it replaces (R43, R44) -/

/-- A superseded map leaves no LEVEL of its round queued, and none on the line with its claim (R113, R126). -/
theorem Link.liveLevels_dropLevel (l : Link) : l.dropLevel.liveLevels = [] := by
  have hqueue : l.dropLevel.queue.filter Message.isLevel = [] := by
    simp [Link.dropLevel, List.filter_filter]
  unfold Link.liveLevels
  rw [hqueue, List.append_nil]
  cases hl : l.line with
  | message m => cases hm : m.msg.isLevel <;> simp [Link.dropLevel, Link.withdraw, hl, hm]
  | _ => simp [Link.dropLevel, Link.withdraw, hl]

theorem MapBanks.waiting_iff (b : MapBanks) : b.waiting = true ↔ b.pend = .solved ∨ b.pend = .shipped := by
  simp [MapBanks.waiting]

theorem MapBanks.not_waiting {b : MapBanks} (h : b.pend = .empty ∨ b.pend = .solving) : b.waiting = false := by
  rcases h with h | h <;> simp [MapBanks.waiting, h]

theorem State.replaceWork_waiting {s : State} (hidle : s.solver.phase = .idle)
    (hwait : s.banks.pend = .solved ∨ s.banks.pend = .shipped) : s.replaceWork = s.supersede := by
  rw [State.replaceWork, if_pos hidle, if_pos (s.banks.waiting_iff.2 hwait)]

theorem State.replaceWork_none {s : State} (hidle : s.solver.phase = .idle)
    (hnone : s.banks.pend = .empty ∨ s.banks.pend = .solving) : s.replaceWork = s := by
  rw [State.replaceWork, if_pos hidle, if_neg (by simp [MapBanks.not_waiting hnone])]

theorem State.replaceWork_busy {s : State} (hbusy : s.solver.phase ≠ .idle) :
    s.replaceWork = s.raiseIf (!s.solver.voided) .superseded := if_neg hbusy

theorem PortFlags.setIf_superseded (p : PortFlags) (c : Bool) :
    p.setIf c .superseded = { p with superseded := p.superseded || c } := by
  cases c <;> simp [PortFlags.setIf, PortFlags.set]

/-- Settles O13: the grounds of a refusal and what it leaves; a waiting map, no work and a solve in flight replaced. -/
theorem closeFrameIsRefusedOrReplacesWork : Obligations.CloseFrameIsRefusedOrReplacesWork := by
  refine ⟨fun record s h => exec_closeFrame_refused ?_, fun c rest s t hrun hopen hwhole ht => ?_⟩
  · rcases h with h | h | rfl | ⟨c, rest, rfl, hc, hrest⟩
    · exact .inl h
    · exact .inr (.inl h)
    · exact .inr (.inr rfl)
    · exact .inr (.inr (closeRecordOf_noOverrides hc hrest))
  · obtain ⟨r, hr, _⟩ := closeRecordOf_whole hwhole
    rw [exec_closeFrame_taken hrun hopen hr] at ht
    cases ht
    refine ⟨fun hidle hwait => ?_, fun hidle hnone => ?_, fun hbusy => ?_⟩
    · rw [State.replaceWork_waiting hidle hwait]
      exact ⟨rfl, rfl, rfl, s.drivers.entryAt_endRound, s.link.liveLevels_dropLevel, rfl⟩
    · rw [State.replaceWork_none hidle hnone]
      exact ⟨rfl, rfl, rfl, rfl⟩
    · rw [State.replaceWork_busy hbusy]
      exact ⟨PortFlags.setIf_superseded _ _, PortFlags.setIf_superseded _ _, rfl, rfl⟩

end Sys2Proof.Machine

/-! ## Signal loss and loss solves (O25) -/

namespace Sys2Proof.Machine

open Sys2Proof

/-! ### The frame starts of the device's own (R82, R83) -/

theorem exec_lossTimerExpiry_running {s : State} {t : Nat} (h : s.timing.lossTimer = some t) :
    exec .lossTimerExpiry s = .next (s.reach (t + s.sup.loss.timeout)).lossExpiry := by
  show execLossTimerExpiry s = _
  rw [execLossTimerExpiry, h]

theorem exec_lossTimerExpiry_stopped {s : State} (h : s.timing.lossTimer = none) :
    exec .lossTimerExpiry s = .next s := by
  show execLossTimerExpiry s = _
  rw [execLossTimerExpiry, h]

theorem exec_internalFrameStart_running {s : State} {t : Nat} (h : s.timing.freeRun = .running t) :
    exec .internalFrameStart s = .next ((s.reach t).internalStart (t + Config.freeRunPeriod)) := by
  show execInternalFrameStart s = _
  rw [execInternalFrameStart, h]

theorem exec_internalFrameStart_notRunning {s : State} (h : ∀ t, s.timing.freeRun ≠ .running t) :
    exec .internalFrameStart s = .next s := by
  show execInternalFrameStart s = _
  unfold execInternalFrameStart
  split
  · next t ht => exact absurd ht (h t)
  · rfl

/-- The expiry of the loss timer: free-run begins and SIGNAL-LOSS is posted before the frame start (R81, R82). -/
theorem State.lossExpiry_eq (s : State) :
    s.lossExpiry = State.lossSolve (State.frameStart
      { s with
        timing :=
          { s.timing with
            edgeRef := none, lossTimer := none, freeRun := .running (s.now + 16667) }
        events := s.events.post s.banks.active.tag .signalLoss none none none }) := rfl

/-! ### Loss solves (R45, R83) -/

/-- The solver is busy, or a SOLVED map of a picture closed in free-run waits: no loss solve begins (R83). -/
theorem State.lossSolve_kept {s : State}
    (h : s.solver.phase ≠ .idle ∨ (s.banks.pend = .solved ∧ s.banks.source = .pictureInLoss)) : s.lossSolve = s :=
  if_neg fun ⟨hidle, hno⟩ => h.elim (· hidle) hno

theorem State.lossSolve_begun {s : State} (hidle : s.solver.phase = .idle)
    (hno : ¬(s.banks.pend = .solved ∧ s.banks.source = .pictureInLoss)) :
    s.lossSolve =
      (if s.banks.waiting then s.supersede else s).startSolve .loss s.lossParams s.banks.active.tag.epoch :=
  if_pos ⟨hidle, hno⟩

/-- What the supersession of a waiting map leaves to the loss solve that follows it. -/
theorem State.supersedeIf_keeps (s : State) (c : Bool) :
    (if c then s.supersede else s).now = s.now ∧ (if c then s.supersede else s).zone = s.zone
      ∧ (if c then s.supersede else s).banks = s.banks ∧ (if c then s.supersede else s).timing = s.timing
      ∧ (if c then s.supersede else s).thermal = s.thermal := by
  cases c <;> exact ⟨rfl, rfl, rfl, rfl, rfl⟩

/-- The banks at the start of a loss solve (R26, R72). -/
theorem State.startSolve_loss_banks (s : State) (p : SolveParams) (epoch : Bool) :
    (s.startSolve .loss p epoch).banks =
      { s.banks with
        pendingBank := { s.banks.pendingBank with tag := ⟨epoch, s.banks.active.tag.count + 1⟩ }
        pend := .solving
        source := .ordinary } := by
  simp [State.startSolve, Tag.next]

/-- A loss solve leaves the demand store as it is (R27). -/
theorem State.startSolve_loss_zone (s : State) (p : SolveParams) (epoch : Bool) :
    (s.startSolve .loss p epoch).zone = s.zone := by
  simp

/-! ### SET LOSS (R80) -/

theorem lossOf_eq (n a b : Byte) (rest : List Byte) :
    lossOf (n :: a :: b :: rest) = some ⟨max 1 (min 16 n.toNat), min 4095 (be16 a b)⟩ := rfl

theorem LossSetting.timeout_eq (l : LossSetting) : l.timeout = l.steps * 25000 := rfl

/-- What SET LOSS stores. -/
def State.storeLoss (s : State) (g : LossSetting) : State :=
  State.result .ok { s with sup := { s.sup with loss := g } }

theorem exec_setLoss_running {params : List Byte} {s : State} {g : LossSetting} {t : Nat}
    (hg : lossOf params = some g) (ht : s.timing.lossTimer = some t) :
    exec (.setLoss params) s =
      .next (if g.timeout ≤ s.now - t then (s.storeLoss g).lossExpiry else s.storeLoss g) := by
  show execSetLoss params s = _
  simp only [execSetLoss, hg, ht]
  rfl

theorem exec_setLoss_stopped {params : List Byte} {s : State} {g : LossSetting}
    (hg : lossOf params = some g) (ht : s.timing.lossTimer = none) :
    exec (.setLoss params) s = .next (s.storeLoss g) := by
  show execSetLoss params s = _
  simp only [execSetLoss, hg, ht]
  rfl

/-- A running timer short of the new timeout runs on. -/
theorem exec_setLoss_stored {params : List Byte} {s : State} {g : LossSetting} (hg : lossOf params = some g)
    (h : ∀ t, s.timing.lossTimer = some t → s.now - t < g.steps * 25000) :
    exec (.setLoss params) s = .next (s.storeLoss g) := by
  cases ht : s.timing.lossTimer with
  | none => exact exec_setLoss_stopped hg ht
  | some t => rw [exec_setLoss_running hg ht, LossSetting.timeout_eq, if_neg (Nat.not_le.2 (h t ht))]

/-- A running timer that has reached the new timeout expires. -/
theorem exec_setLoss_expired {params : List Byte} {s : State} {g : LossSetting} {t : Nat} (hg : lossOf params = some g)
    (ht : s.timing.lossTimer = some t) (h : g.steps * 25000 ≤ s.now - t) :
    exec (.setLoss params) s = .next (s.storeLoss g).lossExpiry := by
  rw [exec_setLoss_running hg ht, LossSetting.timeout_eq, if_pos h]

/-- Settles O25: the two frame starts of the device's own, the loss solve that each begins or does not, and SET LOSS. -/
theorem signalLossStartsFreeRunAndLossSolves : Obligations.SignalLossStartsFreeRunAndLossSolves := by
  refine ⟨fun s => ⟨fun t => exec_lossTimerExpiry_running, exec_lossTimerExpiry_stopped,
      fun t => exec_internalFrameStart_running, exec_internalFrameStart_notRunning⟩,
    fun s => ⟨State.lossSolve_kept, fun hidle hno => ?_⟩, fun n a b rest s u hu => ?_⟩
  · obtain ⟨hnow, hzone, hbanks, htiming, hthermal⟩ := s.supersedeIf_keeps s.banks.waiting
    rw [State.lossSolve_begun hidle hno]
    refine ⟨rfl, rfl, rfl, rfl, hnow, PerDomain.get_all _, rfl, ?_, ?_, htiming, hthermal, fun hwait => ?_,
      fun hempty => ?_⟩
    · rw [State.startSolve_loss_banks, hbanks]
    · rw [State.startSolve_loss_zone, hzone]
    · rw [if_pos (s.banks.waiting_iff.2 hwait)]
      exact ⟨rfl, rfl, rfl, s.link.liveLevels_dropLevel⟩
    · rw [if_neg (by simp [MapBanks.not_waiting (.inl hempty)])]
      exact ⟨rfl, rfl, rfl, rfl⟩
  · subst hu
    have hg := lossOf_eq n a b rest
    refine ⟨fun h => ?_, fun t ht h => ?_⟩
    · rw [exec_setLoss_stored hg h]
      rfl
    · rw [exec_setLoss_expired hg ht h]
      rfl

end Sys2Proof.Machine

/-! ## Pass 2 (O17) -/

namespace Sys2Proof.Machine

open Sys2Proof

/-! ### What it makes of a zone (R38 to R40) -/

theorem State.pass2Zone_passed {s : State} {z : Nat}
    (h : (s.banks.pendingBank.zone z).held = true ∨ (s.banks.pendingBank.zone z).inactive = true) :
    s.pass2Zone z = (s.banks.pendingBank.zone z, s.solver.sums) := by
  unfold State.pass2Zone
  dsimp only
  split
  · rw [if_pos h]
  · rfl

/-- The level that pass 2 gives an active zone of a driver (R38). -/
def State.scaledFor (s : State) (e : SnapEntry) (z : Nat) : Nat :=
  scaleLevel (s.banks.pendingBank.zone z).level ((s.solver.factors.get e.domain).tier (s.banks.pendingBank.zone z).focus)

theorem State.pass2Zone_active {s : State} {z : Nat} {e : SnapEntry} (hheld : (s.banks.pendingBank.zone z).held = false)
    (hactive : (s.banks.pendingBank.zone z).inactive = false) (ho : s.solver.ownerOf s.zone.cols z = some e) :
    (s.pass2Zone z).1 =
        { s.banks.pendingBank.zone z with
          level := s.scaledFor e z
          code := (dither (s.scaledFor e z) (s.banks.active.zone z).residual).1
          residual := (dither (s.scaledFor e z) (s.banks.active.zone z).residual).2 }
      ∧ ∀ d, (s.pass2Zone z).2.get d =
          if d = e.domain then { s.solver.sums.get d with level := (s.solver.sums.get d).level + s.scaledFor e z }
          else s.solver.sums.get d := by
  have hno : ¬((s.banks.pendingBank.zone z).held = true ∨ (s.banks.pendingBank.zone z).inactive = true) := by
    simp [hheld, hactive]
  rw [State.pass2Zone, ho]
  dsimp only
  rw [if_neg hno]
  exact ⟨rfl, fun d => PerDomain.get_set_self s.solver.sums e.domain d fun x => x.add 0 0 0 (s.scaledFor e z)⟩

theorem State.pass2Step_zone_record (s : State) (y : Nat) :
    s.pass2Step.banks.pendingBank.zone y =
      if y = s.solver.cursor then (s.pass2Zone s.solver.cursor).1 else s.banks.pendingBank.zone y :=
  Bank.zone_putZone _ _ _ _

/-! ### How it goes on (R20, R21) -/

theorem exec_pass2Zone_walk {s : State} (hp : s.solver.phase = .pass2) (hc : s.solver.cursor + 1 < s.zone.n) :
    exec .pass2Zone s = .next s.pass2Step := by
  show execPass2Zone s = _
  rw [execPass2Zone, if_pos ⟨hp, Nat.lt_of_succ_lt hc⟩, if_neg hc.ne]

theorem exec_pass2Zone_last {s : State} (hp : s.solver.phase = .pass2) (hc : s.solver.cursor + 1 = s.zone.n) :
    exec .pass2Zone s = .next s.pass2Step.solveEnd := by
  show execPass2Zone s = _
  rw [execPass2Zone, if_pos ⟨hp, by omega⟩, if_pos hc]

/-- The last zone of pass 2 falls two passes and the factor step's microsecond after the solve start (R21). -/
theorem State.pass2Step_now_last {s : State} (hc : s.solver.cursor + 1 = s.zone.n) :
    s.pass2Step.now = max s.now (s.solver.startTime + 2 * passTime s.zone.n + 1) := by
  rw [State.pass2Step_now, zoneTime_last hc]
  congr 1
  show _ + passTime s.zone.n + 1 + passTime s.zone.n = _
  omega

/-! ### The round that begins (R74, R109, R110) -/

/-- With no entry to ship to, the map is SHIPPED and nothing is read (R74, R115). -/
theorem State.mapShipped_alone {s : State} (hp : s.banks.pend = .solved) (hg : s.timing.gateOpen = true)
    (hnone : s.drivers.nextRotation = none) : s.mapShipped = { s with banks := { s.banks with pend := .shipped } } := by
  rw [State.mapShipped, if_pos ⟨hp, hg⟩]
  dsimp only
  split
  · rfl
  · rw [hnone]

/-- A round without an entry is over at once: the map is SHIPPED (R74, R109). -/
theorem State.beginRound_nobody {s : State} (hp : s.banks.pend = .solved) (hg : s.timing.gateOpen = true)
    (hnobody : s.drivers.shippable = []) :
    s.beginRound = { s with drivers := s.drivers.openRound, banks := { s.banks with pend := .shipped } } := by
  have hround : s.drivers.openRound.round = some [] := congrArg some hnobody
  have hrotation : s.drivers.openRound.nextRotation = none :=
    DriverTable.nextRotation_none (s.drivers.shippable_openRound.trans hnobody)
  rw [State.beginRound_eq hp hg, State.continueRound_nil hround]
  exact State.mapShipped_alone hp hg hrotation

/-- A round begins with the LEVEL of the entry at the head of its list (R109, R110). -/
theorem State.beginRound_offers {s : State} {i : Nat} {rest : List Nat} {e : DriverEntry}
    (hp : s.banks.pend = .solved) (hg : s.timing.gateOpen = true) (hlist : s.drivers.shippable = i :: rest)
    (he : s.drivers.entryAt i = some e) :
    s.beginRound = { s with drivers := s.drivers.openRound, link := s.link.send (s.levelFor i e) } := by
  have hround : s.drivers.openRound.round = some (i :: rest) := congrArg some hlist
  have hentry := s.drivers.entryAt_openRound i
  rw [he, Option.map_some] at hentry
  rw [State.beginRound_eq hp hg,
    State.continueRound_head (s := { s with drivers := s.drivers.openRound }) hround hentry]
  rfl

/-- The entry at the head of the list is present. -/
theorem DriverTable.entryAt_shippable_head {d : DriverTable} {i : Nat} {rest : List Nat}
    (h : d.shippable = i :: rest) : ∃ e, d.entryAt i = some e := by
  obtain ⟨_, e, he, _⟩ := (d.mem_shippable i).1 (h ▸ List.mem_cons_self)
  exact ⟨e, he⟩

/-- A round begun leaves the table with the round opened (R109). -/
theorem State.beginRound_drivers {s : State} (hp : s.banks.pend = .solved) (hg : s.timing.gateOpen = true) :
    s.beginRound.drivers = s.drivers.openRound := by
  cases hlist : s.drivers.shippable with
  | nil => rw [State.beginRound_nobody hp hg hlist]
  | cons i rest =>
    obtain ⟨e, he⟩ := DriverTable.entryAt_shippable_head hlist
    rw [State.beginRound_offers hp hg hlist he]

/-- With an entry to ship to, the map waits SOLVED (R74). -/
theorem State.beginRound_pend_somebody {s : State} (hp : s.banks.pend = .solved) (hg : s.timing.gateOpen = true)
    (hsome : s.drivers.shippable ≠ []) : s.beginRound.banks.pend = .solved := by
  obtain ⟨i, rest, hlist⟩ := List.exists_cons_of_ne_nil hsome
  obtain ⟨e, he⟩ := DriverTable.entryAt_shippable_head hlist
  rw [State.beginRound_offers hp hg hlist he]
  exact hp

/-- The codes of a LEVEL are those of its tile, row by row (R110). -/
theorem State.levelFor_eq (s : State) (i : Nat) (e : DriverEntry) :
    s.levelFor i e = .level i e.addr s.banks.pendingBank.tag
      ((List.range (e.tile.width * e.tile.height)).map fun k =>
        (s.banks.pendingBank.zone
          ((e.tile.row + k / e.tile.width) * s.zone.cols + (e.tile.col + k % e.tile.width))).code) := by
  rw [State.levelFor, Tile.zones_eq, List.map_map]
  rfl

/-- The entries of a table whose round is opened (R109). -/
theorem DriverTable.entryAt_openRound_state (d : DriverTable) (i : Nat) :
    d.openRound.entryAt i = (d.entryAt i).map fun e =>
      { e with attempts := if e.state = .reachable ∨ e.state = .failing then 0 else e.attempts, failed := false } := by
  rw [d.entryAt_openRound]
  congr
  funext e
  simp [DriverEntry.shippable]

/-! ### The end of the solve (R40, R41, R46, R60) -/

/-- The solver IDLE, the domain records written and the map in this pending state. -/
def State.solveDone (s : State) (p : PendState) : State :=
  { s with
    solver := { s.solver with phase := .idle, cursor := 0, voided := false }
    banks :=
      { s.banks with
        pendingBank := { s.banks.pendingBank with domains := s.solver.domainRecords }
        pend := p } }

theorem State.solveEnd_voided_eq {s : State} (h : s.solver.voided = true) :
    s.solveEnd = s.solveDone s.banks.pend := by
  simp [State.solveEnd, State.solveDone, h]

theorem State.solveEnd_kept_eq {s : State} (h : s.solver.voided = false) :
    s.solveEnd = (s.solveDone .solved).beginRound := by
  simp [State.solveEnd, State.solveDone, h]

theorem State.solveEnd_pendingBank (s : State) :
    s.solveEnd.banks.pendingBank = { s.banks.pendingBank with domains := s.solver.domainRecords } := by
  cases h : s.solver.voided with
  | true => rw [State.solveEnd_voided_eq h]; rfl
  | false => rw [State.solveEnd_kept_eq h]; simp [State.solveDone]

/-- Ending the solve leaves every zone record. -/
theorem State.solveEnd_zone_record (s : State) (y : Nat) :
    s.solveEnd.banks.pendingBank.zone y = s.banks.pendingBank.zone y := by
  rw [State.solveEnd_pendingBank]
  rfl

/-- The zone records and the sums after pass 2 has handled a zone, the last one or not, and all that it leaves alone. -/
theorem exec_pass2Zone_next {s : State} (hp : s.solver.phase = .pass2) (hc : s.solver.cursor < s.zone.n) :
    ∃ t, exec .pass2Zone s = .next t
      ∧ (∀ y, t.banks.pendingBank.zone y =
          if y = s.solver.cursor then (s.pass2Zone s.solver.cursor).1 else s.banks.pendingBank.zone y)
      ∧ t.solver.sums = (s.pass2Zone s.solver.cursor).2
      ∧ t.zone = s.zone ∧ t.banks.active = s.banks.active ∧ t.timing = s.timing ∧ t.thermal = s.thermal
      ∧ t.events = s.events ∧ t.picture = s.picture ∧ t.sup = s.sup := by
  rcases Nat.lt_or_eq_of_le hc with hwalk | hlast
  · exact ⟨_, exec_pass2Zone_walk hp hwalk, s.pass2Step_zone_record, rfl, rfl, rfl, rfl, rfl, rfl, rfl, rfl⟩
  · refine ⟨_, exec_pass2Zone_last hp hlast,
      fun y => (s.pass2Step.solveEnd_zone_record y).trans (s.pass2Step_zone_record y), ?_⟩
    simp [State.pass2Step]

/-- Settles O17: a zone of each class; then pass 2 short of the last zone, and at it the map discarded, kept with the
gate CLOSED, or kept with the gate OPEN and its round begun. -/
theorem pass2WritesTheMap : Obligations.Pass2WritesTheMap := by
  refine ⟨fun s hp hc => ?_, fun s t hp hc ht => ⟨fun hwalk => ?_, fun hlast => ?_⟩⟩
  · obtain ⟨t, ht, hzone, hsums, hkept⟩ := exec_pass2Zone_next hp hc
    have hrecord := (hzone s.solver.cursor).trans (if_pos rfl)
    refine ⟨t, ht, fun y hy => (hzone y).trans (if_neg hy), fun hpassed => ?_,
      fun e level hheld hactive ho hlevel => ?_, hkept⟩
    · rw [hrecord, hsums, State.pass2Zone_passed hpassed]
      exact ⟨rfl, rfl⟩
    · rw [hrecord, hsums, show level = s.scaledFor e s.solver.cursor from hlevel]
      exact State.pass2Zone_active hheld hactive ho
  · rw [exec_pass2Zone_walk hp hwalk] at ht
    cases ht
    refine ⟨hp, rfl, rfl, rfl, rfl, rfl, ?_⟩
    rw [State.pass2Step_now, show zoneTime s.zone.n s.solver.cursor = _ from zoneTime_of_lt hwalk]
    rfl
  · rw [exec_pass2Zone_last hp hlast] at ht
    cases ht
    refine ⟨State.solveEnd_phase _, State.solveEnd_voided _, ?_, fun d => ?_, fun hv => ?_, fun hv hg => ?_,
      fun hv hg => ?_⟩
    · rw [s.pass2Step.solveEnd_keeps.1, State.pass2Step_now_last hlast]
      rfl
    · rw [State.solveEnd_pendingBank]
      simp [Solver.domainRecords, State.pass2Step]
    · rw [State.solveEnd_voided_eq (s := s.pass2Step) hv]
      exact ⟨rfl, rfl, rfl⟩
    · rw [State.solveEnd_kept_eq (s := s.pass2Step) hv,
        State.beginRound_idle (s := s.pass2Step.solveDone .solved) (.inr hg)]
      exact ⟨rfl, rfl, rfl⟩
    · rw [State.solveEnd_kept_eq (s := s.pass2Step) hv]
      have hsolved : (s.pass2Step.solveDone .solved).banks.pend = .solved := rfl
      have hopen : (s.pass2Step.solveDone .solved).timing.gateOpen = true := hg
      rw [State.beginRound_drivers hsolved hopen]
      refine ⟨rfl, s.drivers.entryAt_openRound_state, fun hnobody => ?_,
        State.beginRound_pend_somebody hsolved hopen, fun i rest e hlist he => ?_⟩
      · rw [State.beginRound_nobody hsolved hopen hnobody]
        exact ⟨rfl, rfl⟩
      · rw [State.beginRound_offers hsolved hopen hlist he, State.levelFor_eq]
        rfl

end Sys2Proof.Machine

/-! ## The factor step (O19) -/

namespace Sys2Proof.Machine

open Sys2Proof

/-! ### The branches (R53 to R56) -/

theorem targetFactors_fits {beff fd nd : Nat} (h : nd + fd ≤ beff) : targetFactors beff fd nd = ⟨4096, 4096⟩ :=
  if_pos h

theorem targetFactors_dims {beff fd nd : Nat} (h : beff < nd + fd) (hf : fd < beff) :
    targetFactors beff fd nd = ⟨(beff - fd) * 4096 / nd, 4096⟩ := by
  rw [targetFactors, if_neg (Nat.not_le.2 h), if_pos hf]

/-- Where the non-focus tier is dimmed, its target is less than 1 (R54). -/
theorem dims_lt {beff fd nd : Nat} (h : beff < nd + fd) (hf : fd < beff) : (beff - fd) * 4096 / nd ≤ 4095 :=
  Nat.le_of_lt_succ (Nat.div_lt_of_lt_mul (by omega))

theorem targetFactors_focus {beff fd nd : Nat} (h : beff < nd + fd) (hf : beff ≤ fd) (h0 : 0 < fd) :
    targetFactors beff fd nd = ⟨0, beff * 4096 / fd⟩ := by
  rw [targetFactors, if_neg (Nat.not_le.2 h), if_neg (Nat.not_lt.2 hf), if_neg h0.ne']

theorem targetFactors_nothing {nd : Nat} (h : 0 < nd) : targetFactors 0 0 nd = ⟨0, 4096⟩ := by
  rw [targetFactors, if_neg (by omega), if_neg (Nat.lt_irrefl 0), if_pos rfl]

/-- The factors are the targets, limited in their rise (R56). -/
theorem domainFactors_of_target {i : FactorInput} {sums : DomainSums} {kn kf : Nat}
    (h : targetFactors (i.budget - sums.carried) sums.focus sums.nonFocus = ⟨kn, kf⟩) :
    domainFactors i sums = ⟨min kn (i.prevN + i.recovery), min kf (i.prevF + i.recovery)⟩ := by
  rw [domainFactors, h]

/-! ### The budget (R38, R57) -/

/-- The sums scaled by the target factors fit in the effective budget (R54). -/
theorem targetFactors_fit (beff fd nd : Nat) :
    fd * (targetFactors beff fd nd).kf + nd * (targetFactors beff fd nd).kn ≤ beff * 4096 := by
  rcases Nat.lt_or_ge beff (nd + fd) with h | h
  · rcases Nat.lt_or_ge fd beff with hf | hf
    · rw [targetFactors_dims h hf]
      calc fd * 4096 + nd * ((beff - fd) * 4096 / nd)
        _ ≤ fd * 4096 + (beff - fd) * 4096 := Nat.add_le_add_left (Nat.mul_div_le _ _) _
        _ = beff * 4096 := by omega
    · rcases Nat.eq_zero_or_pos fd with rfl | h0
      · obtain rfl : beff = 0 := Nat.le_zero.1 hf
        rw [targetFactors_nothing (by omega)]
        simp
      · rw [targetFactors_focus h hf h0, Nat.mul_zero, Nat.add_zero]
        exact Nat.mul_div_le _ _
  · calc fd * (targetFactors beff fd nd).kf + nd * (targetFactors beff fd nd).kn
      _ = fd * 4096 + nd * 4096 := by rw [targetFactors_fits h]
      _ ≤ beff * 4096 := by omega

/-- So do the sums scaled by the factors, which are no larger than the targets (R56). -/
theorem domainFactors_fit (i : FactorInput) (sums : DomainSums) :
    sums.focus * (domainFactors i sums).kf + sums.nonFocus * (domainFactors i sums).kn
      ≤ (i.budget - sums.carried) * 4096 :=
  (Nat.add_le_add (Nat.mul_le_mul_left _ (Nat.min_le_left _ _)) (Nat.mul_le_mul_left _ (Nat.min_le_left _ _))).trans
    (targetFactors_fit _ _ _)

/-- Levels scaled one by one, each rounded down, sum to at most their sum scaled (R38). -/
theorem sum_scaleLevel_mul_le (levels : List Nat) (k : Nat) :
    (levels.map fun h => scaleLevel h k).sum * 4096 ≤ levels.sum * k := by
  induction levels with
  | nil => simp
  | cons h rest ih =>
    have hh : scaleLevel h k * 4096 ≤ h * k := Nat.div_mul_le_self _ _
    simp only [List.map_cons, List.sum_cons, Nat.add_mul]
    exact Nat.add_le_add hh ih

/-- The levels of a domain's active zones, each scaled by its tier's factor, fit in what the carried levels leave of the
budget. -/
theorem scaled_levels_fit {i : FactorInput} {carried handled : Nat} {focus nonFocus : List Nat} {f : Factors}
    (hf : f = domainFactors i ⟨carried, focus.sum, nonFocus.sum, handled⟩) :
    (focus.map fun h => scaleLevel h f.kf).sum + (nonFocus.map fun h => scaleLevel h f.kn).sum
      ≤ i.budget - carried := by
  have hfocus := sum_scaleLevel_mul_le focus f.kf
  have hrest := sum_scaleLevel_mul_le nonFocus f.kn
  have hfit : focus.sum * f.kf + nonFocus.sum * f.kn ≤ (i.budget - carried) * 4096 := by
    rw [hf]
    exact domainFactors_fit i ⟨carried, focus.sum, nonFocus.sum, handled⟩
  omega

/-- Settles O19: the branches one by one with the limit on the rise, then the fit in the budget. -/
theorem factorsFitTheBudgetAndRecoverByOneStep : Obligations.FactorsFitTheBudgetAndRecoverByOneStep := by
  refine ⟨?_, fun i carried handled focus nonFocus f => scaled_levels_fit⟩
  rintro i sums _ rfl
  obtain ⟨hkn, hkf⟩ := domainFactors_le i sums
  refine ⟨fun h => domainFactors_of_target (targetFactors_fits h), fun h hf => ?_, fun h hf h0 => ?_,
    fun h hf hb => ?_, hkn, hkf, Nat.min_le_right _ _, Nat.min_le_right _ _⟩
  · have heq := domainFactors_of_target (targetFactors_dims h hf)
    refine ⟨heq, ?_⟩
    rw [heq]
    exact (Nat.min_le_left _ _).trans (dims_lt h hf)
  · rw [domainFactors_of_target (targetFactors_focus h hf h0), Nat.zero_min]
  · have htarget : targetFactors (i.budget - sums.carried) sums.focus sums.nonFocus = ⟨0, 4096⟩ := by
      rw [hb, hf]
      exact targetFactors_nothing (by omega)
    rw [domainFactors_of_target htarget, Nat.zero_min]

end Sys2Proof.Machine

/-! ## Every step keeps the budget (O20) -/

namespace Sys2Proof.Machine

open Sys2Proof

/-! ### What a zone brings to the sum of a domain -/

/-- What a zone that counts for `x` brings to the sum of a domain: `x` in its driver's domain, nothing elsewhere. -/
def State.shareOf (s : State) (d : Domain) (z x : Nat) : Nat :=
  match s.solver.ownerOf s.zone.cols z with
  | some e => if e.domain = d then x else 0
  | none => 0

theorem State.shareOf_owned {s : State} {z : Nat} {e : SnapEntry} (h : s.solver.ownerOf s.zone.cols z = some e)
    (d : Domain) (x : Nat) : s.shareOf d z x = if d = e.domain then x else 0 := by
  simp [State.shareOf, h, eq_comm]

theorem State.shareOf_ownerless {s : State} {z : Nat} (h : s.solver.ownerOf s.zone.cols z = none) (d : Domain)
    (x : Nat) : s.shareOf d z x = 0 := by
  simp [State.shareOf, h]

@[simp] theorem State.shareOf_zero (s : State) (d : Domain) (z : Nat) : s.shareOf d z 0 = 0 := by
  cases h : s.solver.ownerOf s.zone.cols z with
  | none => exact State.shareOf_ownerless h d 0
  | some e => simp [State.shareOf_owned h]

/-- What a zone's pending record brings to the sum of a domain. -/
def State.recordShare (s : State) (d : Domain) (value : ZoneRecord → Nat) (z : Nat) : Nat :=
  s.shareOf d z (value (s.banks.pendingBank.zone z))

theorem State.domainSum_eq (s : State) (d : Domain) (value : ZoneRecord → Nat) (first last : Nat) :
    s.domainSum d value first last = ((List.range' first (last - first)).map (s.recordShare d value)).sum := rfl

@[simp] theorem State.domainSum_self (s : State) (d : Domain) (value : ZoneRecord → Nat) (z : Nat) :
    s.domainSum d value z z = 0 := by
  simp [State.domainSum_eq]

/-- The sum up to a zone, and that zone. -/
theorem State.domainSum_succ (s : State) (d : Domain) (value : ZoneRecord → Nat) (z : Nat) :
    s.domainSum d value 0 (z + 1) = s.domainSum d value 0 z + s.recordShare d value z := by
  simp [State.domainSum_eq, List.range'_concat]

/-- A zone, and the sum after it. -/
theorem State.domainSum_head (s : State) (d : Domain) (value : ZoneRecord → Nat) {z n : Nat} (h : z < n) :
    s.domainSum d value z n = s.recordShare d value z + s.domainSum d value (z + 1) n := by
  have hlen : n - z = n - (z + 1) + 1 := by omega
  rw [State.domainSum_eq, hlen, List.range'_succ]
  rfl

theorem State.domainSum_congr {s t : State} {d : Domain} {v w : ZoneRecord → Nat} {first last : Nat}
    (h : ∀ z, first ≤ z → z < last → t.recordShare d v z = s.recordShare d w z) :
    t.domainSum d v first last = s.domainSum d w first last := by
  rw [State.domainSum_eq, State.domainSum_eq]
  congr 1
  refine List.map_congr_left fun z hz => ?_
  obtain ⟨hlo, hhi⟩ := List.mem_range'_1.1 hz
  exact h z hlo (by omega)

/-! ### One record rewritten -/

/-- From `s` to `t` the pending record of one zone is rewritten, and every zone keeps its driver. -/
structure RewritesZone (s t : State) (z : Nat) (r : ZoneRecord) : Prop where
  snapshot : t.solver.snapshot = s.solver.snapshot
  cols : t.zone.cols = s.zone.cols
  record : ∀ y, t.banks.pendingBank.zone y = if y = z then r else s.banks.pendingBank.zone y

/-- The drivers of the snapshot and the grid alone bear on where a zone counts. -/
theorem State.shareOf_congr {s t : State} (hsnap : t.solver.snapshot = s.solver.snapshot)
    (hcols : t.zone.cols = s.zone.cols) (d : Domain) (z x : Nat) : t.shareOf d z x = s.shareOf d z x := by
  simp only [State.shareOf, Solver.ownerOf, hsnap, hcols]

theorem RewritesZone.share_same {s t : State} {z : Nat} {r : ZoneRecord} (h : RewritesZone s t z r) (d : Domain)
    (value : ZoneRecord → Nat) : t.recordShare d value z = s.shareOf d z (value r) := by
  rw [State.recordShare, State.shareOf_congr h.snapshot h.cols, h.record, if_pos rfl]

theorem RewritesZone.share_other {s t : State} {z : Nat} {r : ZoneRecord} (h : RewritesZone s t z r) (d : Domain)
    (value : ZoneRecord → Nat) {y : Nat} (hy : y ≠ z) : t.recordShare d value y = s.recordShare d value y := by
  rw [State.recordShare, State.shareOf_congr h.snapshot h.cols, h.record, if_neg hy, State.recordShare]

/-- The zones handled so far gain the rewritten one. -/
theorem RewritesZone.sum_before {s t : State} {z : Nat} {r : ZoneRecord} (h : RewritesZone s t z r) (d : Domain)
    (value : ZoneRecord → Nat) :
    t.domainSum d value 0 (z + 1) = s.domainSum d value 0 z + s.shareOf d z (value r) := by
  rw [State.domainSum_succ, h.share_same d value,
    State.domainSum_congr fun y _ hy => h.share_other d value (Nat.ne_of_lt hy)]

/-- The zones after it stand as they stood. -/
theorem RewritesZone.sum_after {s t : State} {z : Nat} {r : ZoneRecord} (h : RewritesZone s t z r) (d : Domain)
    (value : ZoneRecord → Nat) (n : Nat) : t.domainSum d value (z + 1) n = s.domainSum d value (z + 1) n :=
  State.domainSum_congr fun _ hy _ => h.share_other d value (Nat.ne_of_gt hy)

/-- A record rewritten with the same value counts for as much. -/
theorem RewritesZone.sum_unchanged {s t : State} {z : Nat} {r : ZoneRecord} (h : RewritesZone s t z r) (d : Domain)
    {value : ZoneRecord → Nat} (hv : value r = value (s.banks.pendingBank.zone z)) (first last : Nat) :
    t.domainSum d value first last = s.domainSum d value first last := by
  refine State.domainSum_congr fun y _ _ => ?_
  by_cases hy : y = z
  · rw [hy, h.share_same d value, hv]
    rfl
  · exact h.share_other d value hy

/-! ### The invariant phase by phase -/

/-- The sums of pass 1 are those of the records below `last`. -/
def State.SumsUpTo (s : State) (d : Domain) (last : Nat) : Prop :=
  (s.solver.sums.get d).carried = s.domainSum d ZoneRecord.carriedLevel 0 last
    ∧ (s.solver.sums.get d).focus = s.domainSum d ZoneRecord.focusLevel 0 last
    ∧ (s.solver.sums.get d).nonFocus = s.domainSum d ZoneRecord.nonFocusLevel 0 last
    ∧ (s.solver.sums.get d).level = 0

/-- What pass 2 has written and what it has still to write fits in the budget. -/
def State.ScalesIntoBudget (s : State) (d : Domain) : Prop :=
  (s.solver.sums.get d).carried = s.domainSum d ZoneRecord.carriedLevel 0 s.zone.n
    ∧ (s.solver.sums.get d).level = s.domainSum d ZoneRecord.activeLevel 0 s.solver.cursor
    ∧ (s.solver.sums.get d).level
        + s.domainSum d (ZoneRecord.scaledLevel (s.solver.factors.get d)) s.solver.cursor s.zone.n
      ≤ (s.solver.inputs.get d).budget - (s.solver.sums.get d).carried

/-- The level sum of a waiting map is that of its records, within the budget or of carried levels alone (R57). -/
def State.MapInBudget (s : State) (d : Domain) : Prop :=
  (s.banks.pendingBank.domains.get d).levelSum =
      s.domainSum d ZoneRecord.carriedLevel 0 s.zone.n + s.domainSum d ZoneRecord.activeLevel 0 s.zone.n
    ∧ s.domainSum d ZoneRecord.activeLevel 0 s.zone.n
      ≤ (s.banks.pendingBank.domains.get d).budget - s.domainSum d ZoneRecord.carriedLevel 0 s.zone.n

theorem budgetInv_iff {s : State} :
    BudgetInv s ↔ ∀ d,
      (s.solver.phase = .pass1 → s.SumsUpTo d s.solver.cursor)
        ∧ (s.solver.phase = .factor → s.SumsUpTo d s.zone.n)
        ∧ (s.solver.phase = .pass2 → s.ScalesIntoBudget d)
        ∧ (s.banks.waiting = true → s.MapInBudget d) := by
  simp only [s.banks.waiting_iff]
  rfl

/-- In pass 1 with no map waiting, the sums so far are all it asks. -/
theorem BudgetInv.of_pass1 {s : State} (hp : s.solver.phase = .pass1) (hw : s.banks.waiting = false)
    (h : ∀ d, s.SumsUpTo d s.solver.cursor) : BudgetInv s :=
  budgetInv_iff.2 fun d => ⟨fun _ => h d, by simp [hp], by simp [hp], fun h => absurd h (by simp [hw])⟩

theorem BudgetInv.of_factor {s : State} (hp : s.solver.phase = .factor) (hw : s.banks.waiting = false)
    (h : ∀ d, s.SumsUpTo d s.zone.n) : BudgetInv s :=
  budgetInv_iff.2 fun d => ⟨by simp [hp], fun _ => h d, by simp [hp], fun h => absurd h (by simp [hw])⟩

theorem BudgetInv.of_pass2 {s : State} (hp : s.solver.phase = .pass2) (hw : s.banks.waiting = false)
    (h : ∀ d, s.ScalesIntoBudget d) : BudgetInv s :=
  budgetInv_iff.2 fun d => ⟨by simp [hp], by simp [hp], fun _ => h d, fun h => absurd h (by simp [hw])⟩

/-- With the solver IDLE, a waiting map is all it speaks of. -/
theorem BudgetInv.of_idle {s : State} (hp : s.solver.phase = .idle)
    (h : s.banks.waiting = true → ∀ d, s.MapInBudget d) : BudgetInv s :=
  budgetInv_iff.2 fun d => ⟨by simp [hp], by simp [hp], by simp [hp], (h · d)⟩

/-- With the solver IDLE and the pending state EMPTY there is nothing to keep: the resets, and SET GRID (R2, R183,
R184). -/
theorem BudgetInv.of_empty {s : State} (hphase : s.solver.phase = .idle) (hpend : s.banks.pend = .empty) :
    BudgetInv s :=
  .of_idle hphase fun h => by simp [MapBanks.not_waiting (.inl hpend)] at h

/-- While a solve is in flight no map waits (R42, R46). -/
theorem PendingInv.not_waiting {s : State} (hi : PendingInv s) (hp : s.solver.phase ≠ .idle) :
    s.banks.waiting = false := by
  obtain ⟨hsolving, hvoided⟩ := hi
  cases hv : s.solver.voided with
  | true => exact MapBanks.not_waiting (.inl (hvoided hv).2)
  | false => exact MapBanks.not_waiting (.inr (hsolving.2 ⟨hp, hv⟩))

/-- A map waits on an IDLE solver alone (R42, R46). -/
theorem PendingInv.idle_of_waiting {s : State} (hi : PendingInv s) (hw : s.banks.waiting = true) :
    s.solver.phase = .idle :=
  by_contra fun hp => by simp [hi.not_waiting hp] at hw

/-! ### What leaves it alone -/

/-- From `s` to `t` no sum, record or factor of the solve moves, and no map becomes pending: the solve may be voided,
a map shipped or discarded. -/
structure KeepsSums (s t : State) : Prop where
  solver : ∃ voided, t.solver = { s.solver with voided := voided }
  grid : (t.zone.cols, t.zone.rows) = (s.zone.cols, s.zone.rows)
  pending : t.banks.pendingBank = s.banks.pendingBank
  waiting : t.banks.waiting = true → s.banks.waiting = true

theorem BudgetInv.keepsSums {s t : State} (hi : BudgetInv s) (h : KeepsSums s t) : BudgetInv t := by
  obtain ⟨⟨voided, hsol⟩, hgrid, hpending, hwaiting⟩ := h
  obtain ⟨hcols, hrows⟩ := Prod.mk.inj hgrid
  have hn : t.zone.n = s.zone.n := by rw [ZoneStore.n, hcols, hrows, ZoneStore.n]
  have hsum (d : Domain) (value : ZoneRecord → Nat) (first last : Nat) :
      t.domainSum d value first last = s.domainSum d value first last := by
    refine State.domainSum_congr fun z _ _ => ?_
    rw [State.recordShare, State.shareOf_congr (by rw [hsol]) hcols, hpending]
    rfl
  refine budgetInv_iff.2 fun d => ?_
  obtain ⟨hpass1, hfactor, hpass2, hmap⟩ := budgetInv_iff.1 hi d
  simp only [State.SumsUpTo, State.ScalesIntoBudget, State.MapInBudget, hsum, hn, hsol, hpending]
  exact ⟨hpass1, hfactor, hpass2, hmap ∘ hwaiting⟩

/-- Two states with the same solver, grid, pending records and pending state. -/
theorem KeepsSums.of_eq {s t : State} (hsol : t.solver = s.solver)
    (hgrid : (t.zone.cols, t.zone.rows) = (s.zone.cols, s.zone.rows))
    (hpending : t.banks.pendingBank = s.banks.pendingBank)
    (hpend : t.banks.pend = s.banks.pend ∨ s.banks.pend = .solved ∧ t.banks.pend = .shipped) : KeepsSums s t := by
  refine ⟨⟨s.solver.voided, hsol⟩, hgrid, hpending, fun ht => ?_⟩
  rcases hpend with h | ⟨hs, _⟩
  · rwa [MapBanks.waiting, h] at ht
  · exact s.banks.waiting_iff.2 (.inl hs)

theorem State.keepsSums_beginRound (s : State) : KeepsSums s s.beginRound :=
  .of_eq (by simp) (by simp) (by simp) (s.beginRound_pend.imp_right fun ⟨hs, _, ht⟩ => ⟨hs, ht⟩)

/-- The operations that a STOP and a KILL end leave a solve to go on voided, and no map (R46, R75). -/
theorem State.keepsSums_endOperations (s : State) : KeepsSums s s.endOperations :=
  ⟨⟨_, rfl⟩, rfl, rfl, nofun⟩

/-! ### Solve starts and frame starts -/

/-- A solve starts with no zone handled and every sum 0 (R20, R24). -/
theorem BudgetInv.startSolve (s : State) (kind : SolveKind) (params : SolveParams) (epoch : Bool) :
    BudgetInv (s.startSolve kind params epoch) := by
  refine .of_pass1 rfl (MapBanks.not_waiting (.inr rfl)) fun d => ?_
  have hsums : (s.startSolve kind params epoch).solver.sums.get d = ⟨0, 0, 0, 0⟩ := PerDomain.get_all _ d
  have hcursor : (s.startSolve kind params epoch).solver.cursor = 0 := rfl
  simp [State.SumsUpTo, hsums, hcursor]

/-- A frame start commits a waiting map, which leaves none, or leaves the banks (R76, R77). -/
theorem BudgetInv.frameStart {s : State} (hp : PendingInv s) (hi : BudgetInv s) : BudgetInv s.frameStart := by
  have hbanks := s.frameStart_banks
  split at hbanks
  · next hshipped =>
    have hidle := hp.idle_of_waiting (s.banks.waiting_iff.2 (.inr hshipped))
    have hempty : s.frameStart.banks.waiting = false := MapBanks.not_waiting (.inl (by rw [hbanks]))
    exact .of_idle (by simpa using hidle) fun h => by simp [hempty] at h
  · exact hi.keepsSums (.of_eq (by simp) (by simp) (by rw [hbanks]) (.inl (by rw [hbanks])))

theorem BudgetInv.lossSolve {s : State} (hi : BudgetInv s) : BudgetInv s.lossSolve := by
  rcases s.lossSolve_cases with h | ⟨_, _, h⟩
  · rwa [h]
  · rw [h]
    exact .startSolve _ _ _ _

theorem BudgetInv.internalStart {s : State} (hp : PendingInv s) (hi : BudgetInv s) (next : Nat) :
    BudgetInv (s.internalStart next) :=
  .lossSolve (.frameStart (s := { s with timing := { s.timing with freeRun := .running next } }) hp hi)

end Sys2Proof.Machine

namespace Sys2Proof.Machine

open Sys2Proof

/-! ### Pass 1 (R30, R31, R36) -/

/-- A carried or an active zone is its driver's (R29). -/
theorem State.ownerOf_of_classify {s : State} {z : Nat} {e : SnapEntry}
    (h : s.classify z = .carried e ∨ s.classify z = .active e) : s.solver.ownerOf s.zone.cols z = some e := by
  unfold State.classify at h
  split at h
  · simp at h
  · next f ho =>
    rw [ho]
    split at h
    · simpa using h
    · split at h
      · simp at h
      · simpa using h

/-- Pass 1 adds to each sum what the record that it writes counts for there. -/
theorem State.pass1Sums_eq (s : State) (z : Nat) (d : Domain) :
    (s.pass1Sums z).get d =
      (s.solver.sums.get d).add (s.shareOf d z (s.pass1Record z).carriedLevel)
        (s.shareOf d z (s.pass1Record z).focusLevel) (s.shareOf d z (s.pass1Record z).nonFocusLevel) 0 := by
  cases hclass : s.classify z with
  | carried e =>
    obtain ⟨hrecord, hsums⟩ := State.pass1_carried hclass
    rw [hsums, hrecord, State.shareOf_owned (State.ownerOf_of_classify (.inl hclass))]
    by_cases hd : d = e.domain <;>
      simp [hd, DomainSums.add, ZoneRecord.carriedLevel, ZoneRecord.focusLevel, ZoneRecord.nonFocusLevel,
        ZoneRecord.activeLevel]
  | inactive =>
    obtain ⟨hrecord, hsums⟩ := State.pass1_inactive hclass
    rw [hsums, hrecord]
    simp [DomainSums.add, ZoneRecord.carriedLevel, ZoneRecord.focusLevel, ZoneRecord.nonFocusLevel,
      ZoneRecord.activeLevel]
  | active e =>
    have howner := State.ownerOf_of_classify (.inr hclass)
    rw [State.pass1Sums_active hclass, State.pass1Record, hclass]
    simp only [State.shareOf_owned howner]
    cases s.solver.inFocus s.zone.cols z <;> by_cases hd : d = e.domain <;>
      simp [hd, DomainSums.add, ZoneRecord.carriedLevel, ZoneRecord.focusLevel, ZoneRecord.nonFocusLevel,
        ZoneRecord.activeLevel]

theorem State.pass1Step_rewrites (s : State) :
    RewritesZone s s.pass1Step s.solver.cursor (s.pass1Record s.solver.cursor) :=
  ⟨rfl, rfl, s.pass1Step_zone_record⟩

theorem State.SumsUpTo.pass1Step {s : State} {d : Domain} (h : s.SumsUpTo d s.solver.cursor) :
    s.pass1Step.SumsUpTo d (s.solver.cursor + 1) := by
  obtain ⟨hcarried, hfocus, hrest, hlevel⟩ := h
  have hsums : s.pass1Step.solver.sums = s.pass1Sums s.solver.cursor := rfl
  unfold State.SumsUpTo
  simp only [s.pass1Step_rewrites.sum_before d, hsums, State.pass1Sums_eq, DomainSums.add, hcarried, hfocus, hrest,
    hlevel, and_self]

theorem BudgetInv.pass1Step {s : State} (hp : PendingInv s) (hphase : s.solver.phase = .pass1) (hi : BudgetInv s) :
    BudgetInv s.pass1Step := by
  have hwaiting : s.pass1Step.banks.waiting = false := hp.not_waiting (by simp [hphase])
  have hsums (d : Domain) : s.pass1Step.SumsUpTo d (s.solver.cursor + 1) :=
    ((budgetInv_iff.1 hi d).1 hphase).pass1Step
  by_cases hlast : s.solver.cursor + 1 = s.zone.n
  · refine .of_factor (by simp [State.pass1Step, hlast]) hwaiting fun d => ?_
    rw [show s.pass1Step.zone.n = s.solver.cursor + 1 from hlast.symm]
    exact hsums d
  · have hcursor : s.pass1Step.solver.cursor = s.solver.cursor + 1 := by simp [State.pass1Step, hlast]
    exact .of_pass1 (by simp [State.pass1Step, hlast]) hwaiting fun d => by rw [hcursor]; exact hsums d

/-! ### The factor step (R37, R38, R57) -/

@[simp] theorem scaleLevel_zero (k : Nat) : scaleLevel 0 k = 0 := by simp [scaleLevel]

/-- An active zone is scaled in the tier that it counts in (R38, R52). -/
theorem ZoneRecord.scaledLevel_eq (f : Factors) (r : ZoneRecord) :
    r.scaledLevel f = scaleLevel r.focusLevel f.kf + scaleLevel r.nonFocusLevel f.kn := by
  cases h : r.focus <;>
    simp [ZoneRecord.scaledLevel, ZoneRecord.focusLevel, ZoneRecord.nonFocusLevel, Factors.tier, h]

theorem State.recordShare_scaled (s : State) (d : Domain) (f : Factors) (z : Nat) :
    s.recordShare d (ZoneRecord.scaledLevel f) z =
      scaleLevel (s.recordShare d ZoneRecord.focusLevel z) f.kf
        + scaleLevel (s.recordShare d ZoneRecord.nonFocusLevel z) f.kn := by
  unfold State.recordShare
  cases howner : s.solver.ownerOf s.zone.cols z with
  | none => simp [State.shareOf_ownerless howner]
  | some e =>
    simp only [State.shareOf_owned howner]
    split
    · exact ZoneRecord.scaledLevel_eq f _
    · simp

/-- The levels that the factors of a domain leave fit in its budget. -/
theorem State.domainSum_scaled_le {s : State} {d : Domain} {n : Nat} {i : FactorInput} (h : s.SumsUpTo d n) :
    s.domainSum d (ZoneRecord.scaledLevel (domainFactors i (s.solver.sums.get d))) 0 n
      ≤ i.budget - (s.solver.sums.get d).carried := by
  obtain ⟨_, hfocus, hrest, _⟩ := h
  have hfit := scaled_levels_fit (i := i) (carried := (s.solver.sums.get d).carried)
    (handled := (s.solver.sums.get d).level)
    (focus := (List.range' 0 (n - 0)).map (s.recordShare d ZoneRecord.focusLevel))
    (nonFocus := (List.range' 0 (n - 0)).map (s.recordShare d ZoneRecord.nonFocusLevel))
    (f := domainFactors i (s.solver.sums.get d))
    (by rw [← State.domainSum_eq, ← State.domainSum_eq, ← hfocus, ← hrest])
  rw [List.map_map, List.map_map, ← List.sum_map_add] at hfit
  rw [State.domainSum_eq]
  exact (congrArg List.sum (List.map_congr_left fun z _ => s.recordShare_scaled d _ z)).trans_le hfit

theorem BudgetInv.factorStep {s t : State} (hp : PendingInv s) (hphase : s.solver.phase = .factor)
    (h : exec .factorStep s = .next t) (hi : BudgetInv s) : BudgetInv t := by
  have hsums (d : Domain) := (budgetInv_iff.1 hi d).2.1 hphase
  rw [exec_factorStep hphase] at h
  cases h
  refine .of_pass2 rfl (hp.not_waiting (by simp [hphase])) fun d => ?_
  obtain ⟨hcarried, _, _, hlevel⟩ := hsums d
  refine ⟨hcarried, by simpa using hlevel, ?_⟩
  simp only [PerDomain.get_of, hlevel, Nat.zero_add]
  exact State.domainSum_scaled_le (hsums d)

/-! ### Pass 2 (R38, R40, R60) -/

/-- A zone without a driver is inactive in pass 2 too (R29). -/
theorem State.pass2Zone_ownerless {s : State} {z : Nat} (h : s.solver.ownerOf s.zone.cols z = none) :
    s.pass2Zone z = (s.banks.pendingBank.zone z, s.solver.sums) := by
  rw [State.pass2Zone, h]

/-- Pass 2 leaves what a zone counts for as carried, gives it the level that it was to have, and adds that level to the
sum of its domain. -/
theorem State.pass2Zone_counts (s : State) (z : Nat) (d : Domain) :
    (s.pass2Zone z).1.carriedLevel = (s.banks.pendingBank.zone z).carriedLevel
      ∧ s.shareOf d z (s.pass2Zone z).1.activeLevel =
          s.recordShare d (ZoneRecord.scaledLevel (s.solver.factors.get d)) z
      ∧ (s.pass2Zone z).2.get d =
          (s.solver.sums.get d).add 0 0 0 (s.shareOf d z (s.pass2Zone z).1.activeLevel) := by
  by_cases hpassed : (s.banks.pendingBank.zone z).held = true ∨ (s.banks.pendingBank.zone z).inactive = true
  · have hlevel : (s.banks.pendingBank.zone z).activeLevel = 0 := by
      rcases hpassed with h | h <;> simp [ZoneRecord.activeLevel, h]
    rw [State.pass2Zone_passed hpassed, State.recordShare, ZoneRecord.scaledLevel]
    simp [hlevel, DomainSums.add]
  · cases howner : s.solver.ownerOf s.zone.cols z with
    | none =>
      rw [State.pass2Zone_ownerless howner, State.recordShare]
      simp [State.shareOf_ownerless howner, DomainSums.add]
    | some e =>
      rw [not_or, Bool.not_eq_true, Bool.not_eq_true] at hpassed
      obtain ⟨hheld, hactive⟩ := hpassed
      obtain ⟨hrecord, hsums⟩ := State.pass2Zone_active hheld hactive howner
      rw [hrecord, hsums, State.recordShare]
      simp only [State.shareOf_owned howner]
      by_cases hd : d = e.domain <;>
        simp [hd, hheld, hactive, DomainSums.add, ZoneRecord.carriedLevel, ZoneRecord.activeLevel,
          ZoneRecord.scaledLevel, State.scaledFor]

theorem State.pass2Step_rewrites (s : State) :
    RewritesZone s s.pass2Step s.solver.cursor (s.pass2Zone s.solver.cursor).1 :=
  ⟨rfl, rfl, s.pass2Step_zone_record⟩

theorem State.ScalesIntoBudget.pass2Step {s : State} {d : Domain} (hc : s.solver.cursor < s.zone.n)
    (h : s.ScalesIntoBudget d) : s.pass2Step.ScalesIntoBudget d := by
  obtain ⟨hcarried, hlevel, hfit⟩ := h
  obtain ⟨hcarriedLevel, hscaled, hsums⟩ := s.pass2Zone_counts s.solver.cursor d
  have hrewrites := s.pass2Step_rewrites
  have hget : s.pass2Step.solver.sums.get d =
      (s.solver.sums.get d).add 0 0 0 (s.shareOf d s.solver.cursor (s.pass2Zone s.solver.cursor).1.activeLevel) :=
    hsums
  rw [State.domainSum_head _ _ _ hc, ← hscaled] at hfit
  refine ⟨?_, ?_, ?_⟩
  · rw [hrewrites.sum_unchanged d hcarriedLevel, hget]
    exact hcarried
  · rw [show s.pass2Step.solver.cursor = s.solver.cursor + 1 from rfl, hrewrites.sum_before, hget, ← hlevel]
    rfl
  · rw [show s.pass2Step.solver.cursor = s.solver.cursor + 1 from rfl, hrewrites.sum_after, hget]
    exact (Nat.add_assoc _ _ _).trans_le hfit

/-- The map that a solve leaves at the end of pass 2 is within the budget. -/
theorem State.ScalesIntoBudget.solveDone {s : State} {d : Domain} (hc : s.solver.cursor = s.zone.n) (p : PendState)
    (h : s.ScalesIntoBudget d) : (s.solveDone p).MapInBudget d := by
  obtain ⟨hcarried, hlevel, hfit⟩ := h
  rw [hc] at hlevel hfit
  rw [State.domainSum_self, hlevel, hcarried] at hfit
  have hrecord : (s.solveDone p).banks.pendingBank.domains.get d =
      ⟨(s.solver.factors.get d).kn, (s.solver.factors.get d).kf,
        (s.solver.sums.get d).level + (s.solver.sums.get d).carried, (s.solver.inputs.get d).budget⟩ :=
    PerDomain.get_of _ d
  unfold State.MapInBudget
  rw [hrecord]
  refine ⟨?_, hfit⟩
  rw [hcarried, hlevel, Nat.add_comm]
  rfl

theorem BudgetInv.pass2Zone {s t : State} (hp : PendingInv s) (hphase : s.solver.phase = .pass2)
    (hc : s.solver.cursor < s.zone.n) (h : exec .pass2Zone s = .next t) (hi : BudgetInv s) : BudgetInv t := by
  have hwaiting := hp.not_waiting (by simp [hphase])
  have hscales (d : Domain) : s.pass2Step.ScalesIntoBudget d := ((budgetInv_iff.1 hi d).2.2.1 hphase).pass2Step hc
  rcases Nat.lt_or_eq_of_le hc with hwalk | hlast
  · rw [exec_pass2Zone_walk hphase hwalk] at h
    cases h
    exact .of_pass2 hphase hwaiting hscales
  · rw [exec_pass2Zone_last hphase hlast] at h
    cases h
    have hdone (p : PendState) : BudgetInv (s.pass2Step.solveDone p) :=
      .of_idle rfl fun _ d => (hscales d).solveDone hlast p
    cases hvoid : s.pass2Step.solver.voided with
    | true =>
      rw [State.solveEnd_voided_eq hvoid]
      exact hdone _
    | false =>
      rw [State.solveEnd_kept_eq hvoid]
      exact (hdone _).keepsSums (State.keepsSums_beginRound _)

end Sys2Proof.Machine

namespace Sys2Proof.Machine

open Sys2Proof

/-! ### The commands -/

theorem exec_keeps_budgetInv {c : Instr} {s t : State} (h : exec c s = .next t) (hp : PendingInv s)
    (ho : OutsideRunInv s) (hi : BudgetInv s) : BudgetInv t := by
  have sums (hv : owns c .solver = false) (hg : owns c .grid = false) (hb : owns c .pendingBank = false)
      (hpend : t.banks.pend = s.banks.pend ∨ s.banks.pend = .solved ∧ t.banks.pend = .shipped) : BudgetInv t :=
    hi.keepsSums (.of_eq (exec_keeps (p := .solver) h hv) (exec_keeps (p := .grid) h hg)
      (exec_keeps (p := .pendingBank) h hb) hpend)
  have unmoved {u : State} (hu : ∀ p ∈ [Part.solver, .grid, .pendingBank, .pend], u.part p = s.part p) :
      PendingInv u ∧ BudgetInv u :=
    ⟨hp.congr (hu .solver (by simp)) (hu .pend (by simp)),
      hi.keepsSums (.of_eq (hu .solver (by simp)) (hu .grid (by simp)) (hu .pendingBank (by simp))
        (.inl (hu .pend (by simp))))⟩
  have ownFrame (hc : StartsOwnFrame c) : BudgetInv t :=
    (exec_ownFrame_keeps (P := fun u => PendingInv u ∧ BudgetInv u) hc h
      (fun u _ hu => unmoved fun p hm => hu p (by rintro rfl; simp at hm) (by rintro rfl; simp at hm))
      fun u next ⟨hpu, hiu⟩ => ⟨hpu.internalStart next, hiu.internalStart hpu next⟩).2
  cases c with
  | closeFrame record cut =>
    rcases exec_closeFrame_cases h with ⟨_, rfl⟩ | ⟨_, rfl⟩ | ⟨_, _, _, r, _, rfl⟩
    · exact hi
    · exact hi
    · exact .startSolve _ _ _ _
  | setGrid params =>
    by_cases hop : s.sup.op = .standby ∧ s.solver.phase = .idle
    · obtain ⟨hempty, _⟩ := ho (by simp [hop.1])
      have hsolver : t.solver = s.solver := exec_keeps (p := .solver) h rfl
      have hpend : t.banks.pend = s.banks.pend := exec_keeps (p := .pend) h rfl
      exact .of_empty (by rw [hsolver, hop.2]) (hpend.trans hempty)
    · rw [exec_setGrid_wrongState hop] at h
      cases h
      exact hi
  | fsyncFallingEdge time held high =>
    exact (exec_fsync_keeps (P := fun u => PendingInv u ∧ BudgetInv u) h
      (fun u hu => unmoved fun p hm =>
        hu p (by rintro rfl; simp at hm) (by rintro rfl; simp at hm) (by rintro rfl; simp at hm))
      fun u ⟨hpu, hiu⟩ => ⟨hpu.frameStart, hiu.frameStart hpu⟩).2
  | lossTimerExpiry => exact ownFrame (.inl rfl)
  | internalFrameStart => exact ownFrame (.inr (.inl rfl))
  | setLoss p => exact ownFrame (.inr (.inr ⟨p, rfl⟩))
  | stop p =>
    have hended : BudgetInv s.endOperations := hi.keepsSums s.keepsSums_endOperations
    cases h
    split
    · exact hi
    · exact hi
    · exact hended
    · exact hended
  | killFallingEdge held =>
    have hended : BudgetInv s.endOperations := hi.keepsSums s.keepsSums_endOperations
    cases h
    split
    · exact hended
    · exact hi
  | softReset p =>
    cases h
    split <;> exact .of_empty rfl rfl
  | powerOnReset a b k f =>
    cases h
    exact .of_empty rfl rfl
  | pass1Zone =>
    by_cases hrun : s.solver.phase = .pass1 ∧ s.solver.cursor < s.zone.n
    · rw [exec_pass1Zone hrun.1 hrun.2] at h
      cases h
      exact hi.pass1Step hp hrun.1
    · cases h
      rwa [if_neg hrun]
  | factorStep =>
    by_cases hphase : s.solver.phase = .factor
    · exact hi.factorStep hp hphase h
    · cases h
      rwa [if_neg hphase]
  | pass2Zone =>
    by_cases hrun : s.solver.phase = .pass2 ∧ s.solver.cursor < s.zone.n
    · exact hi.pass2Zone hp hrun.1 hrun.2 h
    · cases h
      rwa [if_neg hrun]
  | levelEnding status wide =>
    exact sums rfl rfl rfl ((exec_levelEnding_pend h).imp_right fun ⟨hs, ht, _⟩ => ⟨hs, ht⟩)
  | latchEnding errorReport wide =>
    exact sums rfl rfl rfl ((exec_latchEnding_pend h).imp_right fun ⟨hs, ht, _⟩ => ⟨hs, ht⟩)
  | _ => exact sums rfl rfl rfl (.inl (exec_keeps (p := .pend) h rfl))

/-- Settles O20: pass 1 keeps its sums in step with the records, the factors fit them in the budget, pass 2 spends what
they leave, and no other command moves what the invariant speaks of unless no solve and no map is left. -/
theorem everyStepKeepsTheBudget : Obligations.EveryStepKeepsTheBudget := by
  intro s t hp ho hi h
  rcases step_cases h with rfl | ⟨c, rest, hc⟩
  · exact hi
  · exact exec_keeps_budgetInv hc hp ho hi

end Sys2Proof.Machine

/-! ## A frame start that commits a SHIPPED map (O23) -/

namespace Sys2Proof.Machine

open Sys2Proof

/-! ### The commit decision (R76, R77, R97) -/

/-- Without a running schedule there is nothing to flush (R95). -/
theorem State.flush_idle {s : State} (h : s.timing.schedule = none) : s.flush = s := by
  rw [State.flush, h]

/-- A SHIPPED map finds the gate OPEN, hence no schedule running and nothing to flush: the frame start is its commit. -/
theorem State.frameStart_shipped {s : State} (hg : GateInv s) (hp : s.banks.pend = .shipped) :
    s.frameStart = s.commit := by
  obtain ⟨hclosed, hopen⟩ := hg
  have hidle : s.timing.schedule = none := by
    rw [← Option.not_isSome_iff_eq_none, ← hclosed, hopen hp]
    nofun
  rw [State.frameStart, State.flush_idle hidle, if_pos hp]

/-! ### The zones of failed drivers (R78) -/

/-- With entries in range whose tiles share no zone, the owner is the one entry whose tile contains the zone. -/
theorem DriverInv.owner_eq_some_iff {s : State} (hi : DriverInv s) {c r i : Nat} {e : DriverEntry} :
    s.drivers.owner c r = some (i, e) ↔ s.drivers.entryAt i = some e ∧ e.tile.contains c r = true := by
  obtain ⟨hrange, hapart⟩ := hi
  constructor
  · intro h
    exact (DriverTable.owner_some h).2
  · rintro ⟨he, hin⟩
    obtain ⟨hlt, _⟩ := hrange i e he
    cases hown : s.drivers.owner c r with
    | none => simp [DriverTable.owner_none hown hlt he] at hin
    | some p =>
      obtain ⟨j, f⟩ := p
      obtain ⟨_, hf, hfin⟩ := DriverTable.owner_some hown
      obtain rfl : j = i := by
        by_contra hne
        exact (hapart j i f e hf he hne).2 c r ⟨hfin, hin⟩
      rw [hf] at he
      cases he
      rfl

/-- A zone is carried forward if the driver whose tile contains it has failed. -/
theorem DriverInv.failedZone_iff {s : State} (hi : DriverInv s) {cols z : Nat} :
    s.drivers.failedZone cols z = true ↔
      ∃ i e, s.drivers.entryAt i = some e ∧ e.tile.contains (z % cols) (z / cols) = true ∧ e.failed = true := by
  unfold DriverTable.failedZone
  constructor
  · intro h
    split at h
    · next i e hown =>
      obtain ⟨he, hin⟩ := hi.owner_eq_some_iff.1 hown
      exact ⟨i, e, he, hin, h⟩
    · cases h
  · rintro ⟨i, e, he, hin, hfail⟩
    rw [hi.owner_eq_some_iff.2 ⟨he, hin⟩]
    exact hfail

/-- The record that a commit makes ACTIVE for a zone (R77, R78). -/
theorem State.committedBank_zone_eq (s : State) (z : Nat) :
    s.committedBank.zone z =
      if z < s.zone.n then
        if s.drivers.failedZone s.zone.cols z then (s.banks.active.zone z).carryForward (s.banks.pendingBank.zone z)
        else s.banks.pendingBank.zone z
      else s.banks.pendingBank.zone z :=
  Store.get_update _ _ _ _ _

/-! ### The level sums of the domains (R61) -/

theorem DriverInv.domainFailed_iff {s : State} (hi : DriverInv s) {d : Domain} :
    s.drivers.domainFailed d = true ↔ ∃ i e, s.drivers.entryAt i = some e ∧ e.domain = d ∧ e.failed = true := by
  obtain ⟨hrange, _⟩ := hi
  simp only [DriverTable.domainFailed, List.any_eq_true, Prod.exists, DriverTable.mem_present, Bool.and_eq_true,
    decide_eq_true_eq]
  constructor
  · rintro ⟨i, e, ⟨_, he⟩, hfail, hd⟩
    exact ⟨i, e, he, hd, hfail⟩
  · rintro ⟨i, e, he, hd, hfail⟩
    exact ⟨i, e, ⟨(hrange i e he).1, he⟩, hfail, hd⟩

/-- A domain that holds no failed driver keeps the level sum of the pending record; that of another is summed again. -/
theorem State.committedBank_levelSum (s : State) (d : Domain) :
    (s.committedBank.domains.get d).levelSum =
      if s.drivers.domainFailed d then domainLevelSum s.drivers s.zone.cols s.zone.n s.committedZones d
      else (s.banks.pendingBank.domains.get d).levelSum := by
  simp only [State.committedBank, PerDomain.get_of]
  split <;> rfl

/-! ### The schedule (R89) -/

/-- The bands that a commit finds due are those whose time is the commit's. -/
theorem Schedule.fromCommit_due (tag : Tag) (g : ScanSetting) (now b : Nat) (hb : b < g.bands) :
    b < (Schedule.fromCommit tag g now).cursor ↔ now + g.base + b * g.step = now := by
  have hcursor : (Schedule.fromCommit tag g now).cursor =
      if g.base = 0 then (if g.step = 0 then g.bands else min 1 g.bands) else 0 := rfl
  have hdue : now + g.base + b * g.step = now ↔ g.base = 0 ∧ (b = 0 ∨ g.step = 0) := by
    rw [← Nat.mul_eq_zero]
    omega
  rw [hcursor, hdue]
  split
  · split <;> omega
  · omega

/-- The LATCH messages of the bands due at the commit. -/
theorem Schedule.latches_fromZero (c : Schedule) (upto : Nat) :
    ({ c with cursor := 0 } : Schedule).latches upto = (List.range upto).map fun b => .latch c.tag b := by
  rw [Schedule.latches, List.range_eq_range']
  rfl

/-! ### The entries and their posts (R112) -/

/-- An entry at the end of the round that the commit closes. -/
theorem DriverEntry.committed_eq (e : DriverEntry) :
    e.committed =
      if e.failed then
        { e with
          misses := min 4 (e.misses + 1), attempts := 0, failed := false
          state := if e.misses + 1 < 4 then e.state else .unreachable }
      else { e with attempts := 0 } := by
  unfold DriverEntry.committed
  split
  · split
    · next h =>
      have h : e.misses + 1 < 4 := h
      rw [Nat.min_eq_right h.le]
    · next h =>
      have h : ¬e.misses + 1 < 4 := h
      rw [Nat.min_eq_left (Nat.not_lt.1 h)]
  · rfl

/-- The entry is lost at the commit: its round failed, and it has missed four (R112). -/
theorem DriverTable.lostAtCommit_eq (d : DriverTable) :
    d.lostAtCommit = (List.range 48).filter fun i =>
      match d.entryAt i with
      | some e => e.failed && decide (4 ≤ e.misses + 1)
      | none => false := by
  rw [DriverTable.lostAtCommit, DriverTable.present, List.filter_filterMap, List.map_filterMap,
    ← List.filterMap_eq_filter]
  refine List.filterMap_congr fun i _ => ?_
  cases he : d.entryAt i with
  | none => simp [Option.guard, he]
  | some e => simp [Option.filter, Option.guard, he, Config.missLimit]

/-- Settles O23: the frame start is the commit, whose zones, level sums, schedule, entries and posts the lemmas above
give one by one. -/
theorem frameStartCommitsAShippedMap : Obligations.FrameStartCommitsAShippedMap := by
  rintro s _ hg hi hp rfl
  rw [State.frameStart_shipped hg hp]
  refine ⟨rfl, rfl, rfl, fun z i e hz he hin hfail => ?_, fun z hkept => ?_, fun d => ?_, rfl,
    ⟨Schedule.fromCommit s.banks.pendingBank.tag s.sup.scan s.now, rfl, rfl, rfl, rfl, rfl, rfl, rfl,
      Schedule.fromCommit_due _ _ _, congrArg _ (Schedule.latches_fromZero _ _)⟩,
    rfl, fun i => ?_, ?_, rfl, rfl, rfl, rfl, rfl, rfl, rfl, rfl⟩
  · exact (s.committedBank_zone_eq z).trans
      ((if_pos hz).trans (if_pos (hi.failedZone_iff.2 ⟨i, e, he, hin, hfail⟩)))
  · have hno (hz : z < s.zone.n) : ¬s.drivers.failedZone s.zone.cols z = true := fun hfailed => by
      obtain ⟨i, e, he, hin, hfail⟩ := hi.failedZone_iff.1 hfailed
      simp [hkept i e hz he hin] at hfail
    refine (s.committedBank_zone_eq z).trans ?_
    split
    · next hz => exact if_neg (hno hz)
    · rfl
  · obtain ⟨hn, hf, hb⟩ := s.committedBank_domain d
    refine ⟨hn, hf, hb, fun hall => ?_, fun hsome => ?_⟩
    · refine (s.committedBank_levelSum d).trans (if_neg fun hfailed => ?_)
      obtain ⟨i, e, he, hd, hfail⟩ := hi.domainFailed_iff.1 hfailed
      simp [hall i e he hd] at hfail
    · exact (s.committedBank_levelSum d).trans (if_pos (hi.domainFailed_iff.2 hsome))
  · refine (s.drivers.entryAt_mapEntries DriverEntry.committed i).trans ?_
    congr 1
    exact funext DriverEntry.committed_eq
  · exact congrArg (fun lost : List Nat => s.events.postAll s.banks.pendingBank.tag
      (lost.map fun i => ⟨.driverUnreachable, some i, none, none⟩)) s.drivers.lostAtCommit_eq

end Sys2Proof.Machine

/-! ## The supervisor's other reads, and the unknown commands (O47) -/

namespace Sys2Proof.Machine

open Sys2Proof

/-! ### READ DRIVER and READ MAP (R119, R159, R176) -/

theorem entryIndexOf_below {i : Byte} {rest : List Byte} (h : i.toNat < 48) :
    entryIndexOf (i :: rest) = some i.toNat := if_pos h

theorem entryIndexOf_above {i : Byte} {rest : List Byte} (h : 48 ≤ i.toNat) : entryIndexOf (i :: rest) = none :=
  if_neg (Nat.not_lt.2 h)

theorem exec_readDriver_taken {params : List Byte} {s : State} {i : Nat} (h : entryIndexOf params = some i) :
    exec (.readDriver params) s = .next (s.fixRecord (.driver (s.drivers.entryAt i) (s.thermal.get .reset i))) := by
  show execReadDriver params s = _
  rw [execReadDriver, h]

theorem exec_readDriver_range {params : List Byte} {s : State} (h : entryIndexOf params = none) :
    exec (.readDriver params) s = .next (s.result .range) := by
  show execReadDriver params s = _
  rw [execReadDriver, h]

theorem exec_supervisorReadMap_eq (a b c d : Byte) (rest : List Byte) (s : State) :
    exec (.supervisorReadMap (a :: b :: c :: d :: rest)) s = .next
      (if s.sup.op = .safe then
        s.fixRecord (.map ⟨some .blanked, .zero, List.replicate (be16 c d) ZoneRecord.reset.entry⟩)
      else if be16 a b < s.zone.n ∧ 1 ≤ be16 c d ∧ be16 c d ≤ Config.maxZones then
        s.fixRecord (.map ⟨some .valid, s.banks.active.tag,
          s.banks.active.entriesFrom s.zone.n (be16 a b) (be16 c d)⟩)
      else s.result .range) := rfl

/-! ### Unknown command bytes (R160, R173) -/

/-- A byte that names no command of the picture port has its frame ignored. -/
theorem exec_pictureUnknownCommand_eq {c : Byte} (h : (Instr.pictureUnknownCommand c).wellFormed = true) (s : State) :
    exec (.pictureUnknownCommand c) s = .next (s.frame .nothing) := by
  have hc : ¬pictureCodes.contains c = true := by simpa [Instr.wellFormed] using h
  show execPictureUnknownCommand c s = _
  rw [execPictureUnknownCommand, if_neg hc]

/-- A byte that names no command of the supervisor port. -/
theorem exec_supervisorUnknownCommand_eq {c : Byte} (h : (Instr.supervisorUnknownCommand c).wellFormed = true)
    (s : State) : exec (.supervisorUnknownCommand c) s = .next (s.result .unknown) := by
  have hc : ¬supervisorCodes.contains c = true := by simpa [Instr.wellFormed] using h
  show execSupervisorUnknownCommand c s = _
  rw [execSupervisorUnknownCommand, if_neg hc]

/-- A frame that does nothing further sends zero bytes (R160). -/
theorem State.pictureByte_nothing (s first : State) (i : Nat) : (s.frame .nothing).pictureByte first i = 0 := rfl

/-- Settles O47: each read with its refusal, then the two unknown commands. -/
theorem supervisorReadsFixTheirCopies : Obligations.SupervisorReadsFixTheirCopies := by
  refine ⟨fun i a b c d rest s => ⟨rfl, fun hi => exec_readDriver_range (entryIndexOf_above hi),
    fun hi => exec_readDriver_taken (entryIndexOf_below hi), fun hsafe => ?_, fun hop hz hc hc' => ?_,
    fun hop hbad => ?_⟩, fun c s => ⟨fun h => ?_, fun h => exec_supervisorUnknownCommand_eq h s⟩⟩
  · rw [exec_supervisorReadMap_eq, if_pos hsafe]
    rfl
  · rw [exec_supervisorReadMap_eq, if_neg hop, if_pos ⟨hz, hc, hc'⟩]
    rfl
  · rw [exec_supervisorReadMap_eq, if_neg hop]
    exact congrArg Host.Outcome.next (if_neg hbad)
  · have heq := exec_pictureUnknownCommand_eq h s
    refine ⟨heq, fun t u i ht => ?_⟩
    rw [heq] at ht
    cases ht
    exact State.pictureByte_nothing s u i

end Sys2Proof.Machine

/-! ## Edges of FSYNC and HOLD, and a frame start without a SHIPPED map (O21, O22, O24) -/

namespace Sys2Proof.Machine

open Sys2Proof

/-! ### The pin filter (R189) -/

theorem pinTaken_eq (held : Nat) : pinTaken held = decide (4 ≤ held) := rfl

theorem pinTaken_iff {held : Nat} : pinTaken held = true ↔ 4 ≤ held := by simp [pinTaken_eq]

/-- An edge whose level is held too short, or that brings no new level, is not taken. -/
theorem not_pinTaken_and {held : Nat} {level new : Bool} (h : held < 4 ∨ level = !new) :
    ¬(pinTaken held = true ∧ level = new) := by
  rintro ⟨htaken, hlevel⟩
  rcases h with h | h
  · exact Nat.not_le.2 h (pinTaken_iff.1 htaken)
  · simp [h] at hlevel

/-! ### FSYNC (R65, R66, R67, R84) -/

/-- Outside RUN, or with HOLD high, an edge passes (R65, R68). -/
theorem State.fsyncEdge_passes {s : State} (h : s.sup.op ≠ .run ∨ s.timing.hold = true) : s.fsyncEdge = s :=
  if_neg fun ⟨hrun, hhold⟩ => h.elim (· hrun) fun hhigh => by simp [hhigh] at hhold

/-- An edge under 4,000 µs after the reference is a runt (R66). -/
theorem FrameTiming.runt_iff {t : FrameTiming} {now : Nat} :
    t.runt now = true ↔ ∃ r, t.edgeRef = some r ∧ now - r < 4000 := by
  unfold FrameTiming.runt
  cases t.edgeRef <;> simp [Config.runtLimit]

theorem FrameTiming.accept_eq (t : FrameTiming) (now : Nat) :
    t.accept now =
      { t with
        tf := (t.edgeRef.map fun r => now - r).getD t.tf
        edgeRef := some now
        lossTimer := some now } := by
  unfold FrameTiming.accept
  cases t.edgeRef <;> rfl

/-- A runt in RUN with HOLD low sets RUNT-FS (R66). -/
theorem State.fsyncEdge_runt {s : State} {r : Nat} (hrun : s.sup.op = .run) (hhold : s.timing.hold = false)
    (hoff : s.timing.freeRun = .off) (href : s.timing.edgeRef = some r) (hrunt : s.now - r < 4000) :
    s.fsyncEdge = s.raise .runtFs := by
  rw [State.fsyncEdge, if_pos ⟨hrun, hhold⟩, if_pos hoff, if_pos (FrameTiming.runt_iff.2 ⟨r, href, hrunt⟩)]

/-- An edge that is no runt is an accepted frame start (R66, R67, R81). -/
theorem State.fsyncEdge_accepted {s : State} (hrun : s.sup.op = .run) (hhold : s.timing.hold = false)
    (hoff : s.timing.freeRun = .off) (hlate : ∀ r, s.timing.edgeRef = some r → 4000 ≤ s.now - r) :
    s.fsyncEdge =
      State.frameStart
        { s with
          timing :=
            { s.timing with
              tf := (s.timing.edgeRef.map fun r => s.now - r).getD s.timing.tf
              edgeRef := some s.now
              lossTimer := some s.now } } := by
  have hno : ¬s.timing.runt s.now = true := fun hrunt => by
    obtain ⟨r, href, hearly⟩ := FrameTiming.runt_iff.1 hrunt
    exact Nat.not_lt.2 (hlate r href) hearly
  rw [State.fsyncEdge, if_pos ⟨hrun, hhold⟩, if_pos hoff, if_neg hno, FrameTiming.accept_eq]

/-- An edge in free-run ends it (R84). -/
theorem State.fsyncEdge_restores {s : State} (hrun : s.sup.op = .run) (hhold : s.timing.hold = false)
    (hfree : s.timing.freeRun ≠ .off) :
    s.fsyncEdge =
      State.frameStart (State.post .signalRestored none none none { s with timing := s.timing.restore s.now }) := by
  rw [State.fsyncEdge, if_pos ⟨hrun, hhold⟩, if_neg hfree]

/-- The level of an FSYNC edge too short to be taken (R189). -/
theorem exec_fsync_short {time held high : Nat} {s : State} (h : held < 4) :
    exec (.fsyncFallingEdge time held high) s = .next (s.fsyncLevel (s.timing.fsync || decide (4 ≤ high))) := by
  show execFsyncFallingEdge time held s high = _
  rw [execFsyncFallingEdge, if_neg (by simp [pinTaken_iff, h]), pinTaken_eq]

/-- An FSYNC edge that brings no new level (R189). -/
theorem exec_fsync_sameLevel {time held high : Nat} {s : State} (h : 4 ≤ held) (hlevel : s.timing.fsync = false)
    (hhigh : high < 4) : exec (.fsyncFallingEdge time held high) s = .next s := by
  show execFsyncFallingEdge time held s high = _
  rw [execFsyncFallingEdge, if_pos (pinTaken_iff.2 h), if_neg (by simp [hlevel, pinTaken_iff, hhigh])]

/-- An FSYNC edge that is taken, with FSYNC low and the clock at its time (R65, R189). -/
theorem exec_fsync_taken {time held high : Nat} {s t : State} (h : 4 ≤ held)
    (hlevel : s.timing.fsync = true ∨ 4 ≤ high) (ht : ((s.fsyncLevel false).reach time).fsyncEdge = t) :
    exec (.fsyncFallingEdge time held high) s = .next t := by
  show execFsyncFallingEdge time held s high = _
  rw [execFsyncFallingEdge, if_pos (pinTaken_iff.2 h), if_pos (hlevel.imp_right pinTaken_iff.2), ht]

/-- Settles O21: the edges that are not taken or pass, the runt, the accepted frame start, and the end of free-run. -/
theorem fsyncEdgesAreJudged : Obligations.FsyncEdgesAreJudged := by
  refine ⟨fun time held high s => ⟨exec_fsync_short, exec_fsync_sameLevel, fun h hlevel hpass => ?_,
      fun r h hlevel hrun hhold hoff href hrunt => ?_⟩,
    fun time held high s h hlevel hrun hhold => ⟨fun hoff hlate => ?_, fun hfree => ?_⟩⟩
  · exact exec_fsync_taken h hlevel (State.fsyncEdge_passes hpass)
  · exact exec_fsync_taken h hlevel (State.fsyncEdge_runt hrun hhold hoff href hrunt)
  · exact exec_fsync_taken h hlevel (State.fsyncEdge_accepted hrun hhold hoff hlate)
  · exact exec_fsync_taken h hlevel (State.fsyncEdge_restores hrun hhold hfree)

/-! ### HOLD (R68, R69) -/

theorem exec_holdRise_ignored {time held : Nat} {s : State} (h : held < 4 ∨ s.timing.hold = true) :
    exec (.holdRise time held) s = .next s := by
  show execHoldRise time held s = _
  rw [execHoldRise, if_neg (not_pinTaken_and h)]

theorem exec_holdRise_taken {time held : Nat} {s : State} (h : 4 ≤ held) (hlow : s.timing.hold = false) :
    exec (.holdRise time held) s = .next { s.reach time with timing := s.timing.holdRise s.sup.op } := by
  show execHoldRise time held s = _
  rw [execHoldRise, if_pos ⟨pinTaken_iff.2 h, hlow⟩]

theorem exec_holdFall_ignored {time held : Nat} {s : State} (h : held < 4 ∨ s.timing.hold = false) :
    exec (.holdFall time held) s = .next s := by
  show execHoldFall time held s = _
  rw [execHoldFall, if_neg (not_pinTaken_and h)]

theorem exec_holdFall_taken {time held : Nat} {s : State} (h : 4 ≤ held) (hhigh : s.timing.hold = true) :
    exec (.holdFall time held) s =
      .next { s.reach time with timing := s.timing.holdFall s.sup.op (max s.now time) } := by
  show execHoldFall time held s = _
  rw [execHoldFall, if_pos ⟨pinTaken_iff.2 h, hhigh⟩]

/-- Outside RUN the level alone changes. -/
theorem FrameTiming.holdRise_outside (t : FrameTiming) {op : OpState} (h : op ≠ .run) :
    t.holdRise op = { t with hold := true } := if_neg h

/-- In RUN the reference is cleared and the loss timer stopped; free-run pauses (R68). -/
theorem FrameTiming.holdRise_run (t : FrameTiming) :
    t.holdRise .run =
      { t with
        hold := true, edgeRef := none, lossTimer := none
        freeRun := if t.freeRun = .off then .off else .paused } := by
  unfold FrameTiming.holdRise
  cases t.freeRun <;> rfl

theorem FrameTiming.holdFall_outside (t : FrameTiming) {op : OpState} (now : Nat) (h : op ≠ .run) :
    t.holdFall op now = { t with hold := false } := if_neg h

/-- In RUN the loss timer starts again (R69). -/
theorem FrameTiming.holdFall_run {t : FrameTiming} (now : Nat) (h : t.freeRun = .off) :
    t.holdFall .run now = { t with hold := false, lossTimer := some now } := if_pos h

/-- In free-run the generator resumes (R69). -/
theorem FrameTiming.holdFall_freeRun {t : FrameTiming} (now : Nat) (h : t.freeRun ≠ .off) :
    t.holdFall .run now = { t with hold := false, freeRun := .running (now + 16667) } := if_neg h

/-- Settles O24: the edges that are not taken, then each edge outside RUN, in RUN and in free-run. -/
theorem holdSuspendsAndRestartsTheFrameClock : Obligations.HoldSuspendsAndRestartsTheFrameClock := by
  refine fun time held s => ⟨exec_holdRise_ignored, exec_holdFall_ignored,
    fun h hlow => ⟨fun hop => ?_, fun hop hoff => ?_, fun hop hfree => ?_⟩,
    fun h hhigh => ⟨fun hop => ?_, fun hop hoff => ?_, fun hop hfree => ?_⟩⟩
  · rw [exec_holdRise_taken h hlow, FrameTiming.holdRise_outside _ hop]
    rfl
  · rw [exec_holdRise_taken h hlow, hop, FrameTiming.holdRise_run, if_pos hoff, ← hoff]
    rfl
  · rw [exec_holdRise_taken h hlow, hop, FrameTiming.holdRise_run, if_neg hfree]
    rfl
  · rw [exec_holdFall_taken h hhigh, FrameTiming.holdFall_outside _ _ hop]
    rfl
  · rw [exec_holdFall_taken h hhigh, hop, FrameTiming.holdFall_run _ hoff]
    rfl
  · rw [exec_holdFall_taken h hhigh, hop, FrameTiming.holdFall_freeRun _ hfree]
    rfl

/-! ### A frame start without a SHIPPED map (R76, R79, R95) -/

/-- With every band of the schedule come due there is nothing to flush (R95). -/
theorem State.flush_done {s : State} (h : ∀ c, s.timing.schedule = some c → c.bands ≤ c.cursor) : s.flush = s := by
  unfold State.flush
  split
  · next c hc => exact if_neg (Nat.not_lt.2 (h c hc))
  · rfl

/-- The bands not yet due come due at once (R95). -/
theorem State.flush_due {s : State} {c : Schedule} (hc : s.timing.schedule = some c) (h : c.cursor < c.bands) :
    s.flush =
      { s.raise .flushed with
        link := s.link.sendAll (c.latches c.bands)
        timing := { s.timing with schedule := some { c with cursor := c.bands } } } := by
  rw [State.flush, hc]
  exact if_pos h

/-- Settles O22: LATE-COMMIT on the device as the flush leaves it. -/
theorem frameStartWithoutAShippedMapIsLate : Obligations.FrameStartWithoutAShippedMapIsLate := by
  intro s hp
  obtain ⟨hs, _⟩ | ⟨_, hlate⟩ := s.frameStart_cases
  · exact absurd hs hp
  · refine ⟨fun hdone => ?_, fun c hc hdue => ?_⟩
    · rw [hlate, State.flush_done hdone]
      rfl
    · rw [hlate, State.flush_due hc hdue]
      rfl

end Sys2Proof.Machine

/-! ## Operating state, latch, frame clock and poll timer keep step (O58) -/

namespace Sys2Proof.Machine

open Sys2Proof

/-! ### What goes on in RUN alone -/

/-- What goes on in RUN alone: the frame clock's timers, the poll timer, the pending map, the scan schedule, the
shipping round and the probes (R86, R99, R113, R117, R135). -/
inductive Work | timers | poll | pend | schedule | round | probes

/-- What a work holds. -/
abbrev Work.Value : Work → Type
  | .timers => Option Nat × FreeRun × Option Nat
  | .poll => Option Nat
  | .pend => PendState
  | .schedule => Option Schedule
  | .round => Option (List Nat)
  | .probes => List Nat

/-- What a work holds in a state. -/
def State.work (s : State) : (w : Work) → w.Value
  | .timers => (s.timing.lossTimer, s.timing.freeRun, s.timing.edgeRef)
  | .poll => s.link.pollTimer
  | .pend => s.banks.pend
  | .schedule => s.timing.schedule
  | .round => s.drivers.round
  | .probes => s.drivers.probes

/-- What a work holds that does not go on. -/
def Work.idle : (w : Work) → w.Value
  | .timers => (none, .off, none)
  | .poll => none
  | .pend => .empty
  | .schedule => none
  | .round => none
  | .probes => []

/-- Operating state, latch and discovery; the HOLD level; and each work. -/
inductive Aspect | station | hold | work (w : Work)

/-- What an aspect holds. -/
abbrev Aspect.Value : Aspect → Type
  | .station => OpState × SafetyLatch × Option Nat
  | .hold => Bool
  | .work w => w.Value

/-- What an aspect holds in a state. -/
def State.aspect (s : State) : (a : Aspect) → a.Value
  | .station => (s.sup.op, s.sup.latch, s.drivers.discovery)
  | .hold => s.timing.hold
  | .work w => s.work w

/-- The commands that may move the operating state or discovery. -/
def turns : Instr → Bool
  | .start _ | .stop _ | .rearm _ | .softReset _ | .killFallingEdge _ | .powerOnReset _ _ _ _
  | .discoveryConfigEnding _ _ | .readEnding _ _ _ => true
  | _ => false

/-- The other commands that may change an aspect. -/
def touches (c : Instr) : Aspect → Bool
  | .station =>
    match c with
    | .killRisingEdge _ => true
    | _ => false
  | .hold =>
    match c with
    | .holdRise _ _ | .holdFall _ _ => true
    | _ => false
  | .work .timers =>
    match c with
    | .setLoss _ | .fsyncFallingEdge _ _ _ | .holdRise _ _ | .holdFall _ _ | .lossTimerExpiry
    | .internalFrameStart => true
    | _ => false
  | .work .poll =>
    match c with
    | .setLink _ | .pollTimerExpiry => true
    | _ => false
  | .work .pend => owns c .pend
  | .work .schedule => owns c .gate
  | .work .round =>
    match c with
    | .closeFrame _ _ | .setLoss _ | .fsyncFallingEdge _ _ _ | .lossTimerExpiry | .internalFrameStart | .pass2Zone
    | .levelEnding _ _ | .latchEnding _ _ | .probeConfigEnding _ _ => true
    | _ => false
  | .work .probes =>
    match c with
    | .probe _ | .transmitChoice | .probeConfigEnding _ _ => true
    | _ => false

/-- A command that does not turn the device leaves every aspect that it does not touch. -/
theorem exec_keeps_aspect {c : Instr} {s t : State} {a : Aspect} (h : exec c s = .next t) (hc : turns c = false)
    (ha : touches c a = false) : t.aspect a = s.aspect a := by
  match a with
  | .work .pend => exact exec_keeps (p := .pend) h ha
  | .work .schedule => exact congrArg Prod.snd (exec_keeps (p := .gate) h ha)
  | .station | .hold | .work .timers | .work .poll | .work .round | .work .probes =>
    cases c with
    | start | stop | rearm | softReset | killFallingEdge | powerOnReset | discoveryConfigEnding | readEnding => cases hc
    | latchEnding | blankEnding | setLoss | pictureGainValue | ackAlert =>
      cases h
      dsimp only
      (repeat' split) <;> cases ha <;> simp [State.aspect, State.work]
    | closeFrame | fsyncFallingEdge | holdRise | holdFall | lossTimerExpiry | internalFrameStart | pass2Zone
    | levelEnding | arbitrationEnd | probeConfigEnding | pollTimerExpiry | pollEnding | transmitChoice =>
      cases h
      (repeat' split) <;> cases ha <;> simp [State.aspect, State.work]
    | _ =>
      cases h
      (repeat' split) <;> cases ha <;> rfl

/-! ### How the device turns (R105, R107, R178, R180 to R184) -/

/-- Operating state, latch and discovery alone bear on it. -/
theorem OperatingInv.congr {s t : State} (hi : OperatingInv s) (h : t.aspect .station = s.aspect .station) :
    OperatingInv t := by
  obtain ⟨hop, hlatch, hdiscovery⟩ : t.sup.op = s.sup.op ∧ t.sup.latch = s.sup.latch
      ∧ t.drivers.discovery = s.drivers.discovery := by simpa [State.aspect] using h
  unfold OperatingInv
  rw [hop, hlatch, hdiscovery]
  exact hi

/-- Outside SAFE the latch is CLEAR. -/
theorem OperatingInv.latch_clear {s : State} (hi : OperatingInv s) (hop : s.sup.op ≠ .safe) : s.sup.latch = .clear := by
  by_contra hset
  exact hop (hi.1.mpr hset)

/-- Outside SAFE with the latch CLEAR, and with discovery work in DISCOVERY alone. -/
theorem OperatingInv.of_clear {t : State} (hop : t.sup.op ≠ .safe) (hlatch : t.sup.latch = .clear)
    (hdiscovery : t.drivers.discovery.isSome = true → t.sup.op = .discovery) : OperatingInv t :=
  ⟨by simp [hop, hlatch], hdiscovery⟩

/-- In SAFE with the latch set and no discovery work. -/
theorem OperatingInv.of_safe {t : State} (hop : t.sup.op = .safe) (hlatch : t.sup.latch ≠ .clear)
    (hdiscovery : t.drivers.discovery = none) : OperatingInv t :=
  ⟨by simp [hop, hlatch], by simp [hdiscovery]⟩

/-- Each work is idle, or goes on as it did outside RUN. -/
def WindsDown (s t : State) : Prop := ∀ w, t.work w = w.idle ∨ s.sup.op ≠ .run ∧ t.work w = s.work w

theorem WindsDown.congr {s t u : State} (h : WindsDown s u) (hw : ∀ w, t.work w = u.work w) : WindsDown s t := by
  intro w
  rw [hw]
  exact h w

/-- A work that is idle outside RUN is idle once everything has wound down. -/
theorem WindsDown.idle {s t : State} (h : WindsDown s t) {w : Work} (hs : s.sup.op ≠ .run → s.work w = w.idle) :
    t.work w = w.idle :=
  (h w).elim id fun ⟨hop, hw⟩ => hw.trans (hs hop)

/-- How the device turns: it leaves every aspect, but that a probe may end; it stands outside RUN, where no work is new; or it enters RUN, where
the loss timer runs unless HOLD is high, and the poll timer runs in polled mode (R85, R135). -/
inductive Turn (s t : State) : Prop
  | stays (ha : ∀ a, a ≠ .work .probes → t.aspect a = s.aspect a)
      (hp : s.drivers.probes = [] → t.drivers.probes = []) (hm : t.link.mode = s.link.mode)
  | outside (hi : OperatingInv t) (hop : t.sup.op ≠ .run) (hw : WindsDown s t)
  | entersRun (hi : OperatingInv t) (hop : t.sup.op = .run)
      (htimers : t.work .timers = (if t.timing.hold then none else some t.now, .off, none))
      (hpoll : t.work .poll = if t.link.mode = .polled then some t.now else none)

/-- The aspects do not show what else stands in the blocks. -/
theorem State.aspect_congr {s t : State} (hs : t.aspect .station = s.aspect .station) (ht : t.timing = s.timing)
    (hp : t.banks.pend = s.banks.pend) (hl : t.link.pollTimer = s.link.pollTimer)
    (hd : t.drivers.round = s.drivers.round ∧ t.drivers.probes = s.drivers.probes) (a : Aspect) :
    t.aspect a = s.aspect a := by
  obtain ⟨hr, hpr⟩ := hd
  match a with
  | .station => exact hs
  | .hold => exact congrArg FrameTiming.hold ht
  | .work .timers => simp [State.aspect, State.work, ht]
  | .work .schedule => simp [State.aspect, State.work, ht]
  | .work .pend => exact hp
  | .work .poll => exact hl
  | .work .round => exact hr
  | .work .probes => exact hpr

theorem Turn.of_same {s t : State} (ha : ∀ a, t.aspect a = s.aspect a) (hm : t.link.mode = s.link.mode) : Turn s t :=
  .stays (fun a _ => ha a) (fun h => (ha (.work .probes)).trans h) hm

theorem Turn.refl (s : State) : Turn s s := .of_same (fun _ => rfl) rfl

theorem Turn.result (s : State) (r : LastResult) : Turn s (s.result r) :=
  .of_same (State.aspect_congr rfl rfl rfl rfl ⟨rfl, rfl⟩) rfl

/-- Discovery goes on in DISCOVERY, enters RUN or goes back to STANDBY (R105, R107). -/
theorem State.discoverFrom_turns {s u : State} (hop : u.sup.op = .discovery) (hlatch : u.sup.latch = .clear)
    (hw : WindsDown s u) (first : Nat) : Turn s (u.discoverFrom first) := by
  unfold State.discoverFrom
  split
  · refine .outside (.of_clear (by simp [hop]) hlatch fun _ => hop) (by simp [hop]) (hw.congr fun w => ?_)
    cases w <;> rfl
  · unfold State.discoveryEnd
    split
    · exact .entersRun (.of_clear (by simp) hlatch nofun) rfl rfl rfl
    · refine .outside (.of_clear nofun hlatch nofun) nofun (hw.congr fun w => ?_)
      cases w <;> rfl

theorem State.enterDiscovery_turns {s u : State} (hs : s.sup.op ≠ .run) (hlatch : u.sup.latch = .clear)
    (hw : ∀ w, u.work w = s.work w) : Turn s u.enterDiscovery := by
  unfold State.enterDiscovery
  refine State.discoverFrom_turns ?_ ?_ (fun w => ?_) 0
  · rfl
  · exact hlatch
  cases w with
  | round | probes => exact .inl rfl
  | timers => exact .inr ⟨hs, hw .timers⟩
  | poll => exact .inr ⟨hs, hw .poll⟩
  | pend => exact .inr ⟨hs, hw .pend⟩
  | schedule => exact .inr ⟨hs, hw .schedule⟩

/-- The work of an entry ends on a device that otherwise shows as before. -/
theorem State.discoveryNext_turns {s u : State} (hi : OperatingInv s) (ha : ∀ a, u.aspect a = s.aspect a)
    (hm : u.link.mode = s.link.mode) : Turn s u.discoveryNext := by
  unfold State.discoveryNext
  split
  · next i hdiscovery =>
    have hu := hi.congr (ha .station)
    have hop : u.sup.op = .discovery := hu.2 (by simp [hdiscovery])
    have hs : s.sup.op = .discovery := (congrArg Prod.fst (ha .station)).symm.trans hop
    exact State.discoverFrom_turns hop (hu.latch_clear (by simp [hop]))
      (fun w => .inr ⟨by simp [hs], ha (.work w)⟩) _
  · exact .of_same ha hm

/-- A READ's ending ends a probe, or the work of an entry under discovery (R106, R116). -/
theorem State.readFollows_turns {s u : State} (hi : OperatingInv s) (ha : ∀ a, u.aspect a = s.aspect a)
    (hm : u.link.mode = s.link.mode) (i : Nat) (asker : ReadAsker) (claim : Bool) :
    Turn s (u.readFollows i asker claim) := by
  cases asker with
  | attention | rotation => exact .of_same ha hm
  | discovery =>
    cases claim with
    | false => exact .of_same ha hm
    | true => exact State.discoveryNext_turns hi ha hm
  | probe =>
    cases claim with
    | false => exact .of_same ha hm
    | true =>
      have hprobes : u.drivers.probes = s.drivers.probes := ha (.work .probes)
      refine .stays (fun a hne => .trans ?_ (ha a)) (fun h => ?_) hm
      · match a, hne with
        | .station, _ | .hold, _ | .work .timers, _ | .work .poll, _ | .work .pend, _ | .work .schedule, _
        | .work .round, _ => rfl
      · simp [State.readFollows, hprobes, h]

/-- With every operation ended, the timers alone may go on, and those outside RUN alone (R86, R99, R132). -/
theorem WindsDown.of_ended {s t : State} (hl : t.link = s.link.quench) (hb : t.banks = s.banks.discard)
    (hd : t.drivers = s.drivers.endWork) (hs : t.timing.schedule = none)
    (ht : t.work .timers = Work.timers.idle ∨ s.sup.op ≠ .run ∧ t.work .timers = s.work .timers) : WindsDown s t
  | .timers => ht
  | .poll => .inl (congrArg Link.pollTimer hl)
  | .pend => .inl (congrArg MapBanks.pend hb)
  | .schedule => .inl hs
  | .round => .inl (congrArg DriverTable.round hd)
  | .probes => .inl (congrArg DriverTable.probes hd)

/-- The frame clock at a safety entry, where only RUN has timers to stop (R86, R99, R181). -/
theorem State.safetyEntry_timing (s : State) :
    s.safetyEntry.timing = if s.sup.op = .run then s.timing.cancel.leaveRun else s.timing.cancel := rfl

theorem exec_turns {c : Instr} {s t : State} (h : exec c s = .next t) (hc : turns c = true) (hi : OperatingInv s) :
    Turn s t := by
  cases c with
  | start p =>
    cases h
    split
    · next hp =>
      exact State.enterDiscovery_turns (by simp [hp.1]) (hi.latch_clear (by simp [hp.1])) fun w => by cases w <;> rfl
    · exact .result s _
  | stop p =>
    cases h
    split
    · exact .result s _
    · exact .result s _
    · next hop =>
      exact .outside (.of_clear nofun (hi.latch_clear (by simp [hop])) nofun) nofun
        (.of_ended rfl rfl rfl rfl (.inr ⟨by simp [hop], rfl⟩))
    · next hop =>
      exact .outside (.of_clear nofun (hi.latch_clear (by simp [hop])) nofun) nofun
        (.of_ended rfl rfl rfl rfl (.inl rfl))
  | rearm p =>
    cases h
    split
    · next hp =>
      have hs : s.sup.op ≠ .run := by simp [hp.1]
      dsimp only
      split
      · refine .outside (.of_clear nofun rfl fun hd => ?_) nofun fun w => .inr ⟨hs, ?_⟩
        · simpa [hp.1] using hi.2 hd
        · cases w <;> rfl
      · exact State.enterDiscovery_turns hs rfl fun w => by cases w <;> rfl
    · exact .result s _
  | softReset p =>
    cases h
    split
    · refine .outside (.of_clear nofun rfl nofun) nofun fun w => .inl ?_
      cases w <;> rfl
    · rw [State.safetyEntry_softReset]
      refine .outside (.of_safe rfl nofun rfl) nofun fun w => .inl ?_
      cases w <;> rfl
  | killFallingEdge held =>
    cases h
    split
    · refine .outside (.of_safe rfl nofun rfl) nofun (.of_ended rfl rfl rfl ?_ ?_)
      · rw [State.safetyEntry_timing]
        split <;> rfl
      · simp only [State.work, State.safetyEntry_timing]
        split
        · exact .inl rfl
        · next hop => exact .inr ⟨hop, rfl⟩
    · exact .refl s
  | powerOnReset a b k f =>
    cases h
    refine .outside (.of_clear nofun rfl nofun) nofun fun w => .inl ?_
    cases w <;> rfl
  | discoveryConfigEnding status wide =>
    cases h
    split
    · split
      · split
        · exact .of_same (State.aspect_congr (by simp [State.aspect]) rfl rfl rfl (by simp)) rfl
        · exact State.discoveryNext_turns hi (State.aspect_congr (by simp [State.aspect]) rfl rfl rfl (by simp)) rfl
      · exact .of_same (State.aspect_congr rfl rfl rfl rfl ⟨rfl, rfl⟩) rfl
    · exact .refl s
  | readEnding status response wide =>
    cases h
    split
    · exact State.readFollows_turns hi (State.aspect_congr (by simp [State.aspect]) (by simp) (by simp) (by simp)
        (by simp)) (by simp) _ _ _
    · exact .refl s
  | _ => cases hc

/-! ### Operating state and latch (R178, R181, R182) -/

theorem exec_keeps_operatingInv {c : Instr} {s t : State} (h : exec c s = .next t) (hi : OperatingInv s) :
    OperatingInv t := by
  cases hc : turns c with
  | true =>
    cases exec_turns h hc hi with
    | stays ha => exact hi.congr (ha .station nofun)
    | outside ht => exact ht
    | entersRun ht => exact ht
  | false =>
    cases c with
    | killRisingEdge held =>
      cases h
      obtain ⟨hlatch, hdiscovery⟩ := hi
      split
      · refine ⟨hlatch.trans ?_, hdiscovery⟩
        dsimp only
        split
        · next hp => simp [hp.2]
        · rfl
      · exact ⟨hlatch, hdiscovery⟩
    | _ => exact hi.congr (exec_keeps_aspect h hc rfl)

/-! ### The frame clock (R65, R68, R69, R81 to R86) -/

/-- The timers as they stand outside RUN, in RUN with HOLD high, and in RUN with HOLD low. -/
theorem timingInv_iff {s : State} :
    TimingInv s ↔
      (s.sup.op ≠ .run → s.work .timers = Work.timers.idle)
      ∧ (s.sup.op = .run → s.timing.hold = true →
          s.work .timers = (none, .off, none) ∨ s.work .timers = (none, .paused, none))
      ∧ (s.sup.op = .run → s.timing.hold = false →
          (∃ start ref, s.work .timers = (some start, .off, ref))
            ∨ ∃ next, s.work .timers = (none, .running next, none)) := by
  have triple (a : Option Nat) (b : FreeRun) (c : Option Nat) :
      s.work .timers = (a, b, c) ↔ s.timing.lossTimer = a ∧ s.timing.freeRun = b ∧ s.timing.edgeRef = c := by
    simp [State.work]
  simp only [TimingInv, Work.idle, triple, Option.isSome_iff_exists]
  refine and_congr Iff.rfl (and_congr ?_ ?_)
  · tauto
  · refine imp_congr_right fun _ => imp_congr_right fun _ => or_congr ?_ ?_
    · simp [and_comm]
    · simp [and_left_comm]

theorem TimingInv.congr {s t : State} (hi : TimingInv s) (hop : t.sup.op = s.sup.op)
    (hhold : t.timing.hold = s.timing.hold) (ht : t.work .timers = s.work .timers) : TimingInv t := by
  rw [timingInv_iff, hop, hhold, ht]
  exact timingInv_iff.1 hi

/-- In RUN with HOLD low and the loss timer running. -/
theorem TimingInv.of_timed {t : State} (hop : t.sup.op = .run) (hhold : t.timing.hold = false) {start : Nat}
    {ref : Option Nat} (ht : t.work .timers = (some start, .off, ref)) : TimingInv t :=
  timingInv_iff.2 ⟨fun h => absurd hop h, fun _ h => by simp [hhold] at h, fun _ _ => .inl ⟨start, ref, ht⟩⟩

/-- In RUN with HOLD low and the generator running. -/
theorem TimingInv.of_freeRun {t : State} (hop : t.sup.op = .run) (hhold : t.timing.hold = false) {next : Nat}
    (ht : t.work .timers = (none, .running next, none)) : TimingInv t :=
  timingInv_iff.2 ⟨fun h => absurd hop h, fun _ h => by simp [hhold] at h, fun _ _ => .inr ⟨next, ht⟩⟩

/-- In RUN with HOLD high and nothing running. -/
theorem TimingInv.of_held {t : State} (hop : t.sup.op = .run) (hhold : t.timing.hold = true)
    (ht : t.work .timers = (none, .off, none) ∨ t.work .timers = (none, .paused, none)) : TimingInv t :=
  timingInv_iff.2 ⟨fun h => absurd hop h, fun _ _ => ht, fun _ h => by simp [hhold] at h⟩

theorem TimingInv.of_outside {t : State} (hop : t.sup.op ≠ .run) (ht : t.work .timers = Work.timers.idle) :
    TimingInv t :=
  timingInv_iff.2 ⟨fun _ => ht, fun h => absurd h hop, fun h => absurd h hop⟩

/-- A frame start leaves the timers; the device's own sets the generator (R82, R83). -/
theorem State.frameStart_timers (s : State) : s.frameStart.work .timers = s.work .timers := by simp [State.work]

theorem State.internalStart_timers (s : State) (next : Nat) :
    (s.internalStart next).work .timers = (s.timing.lossTimer, .running next, s.timing.edgeRef) := by
  simp [State.work, State.internalStart]

/-- A frame start of the device's own: it comes with the loss timer or the generator running, and leaves the generator
running (R81, R82, R83). Without one, every aspect is as it was. -/
theorem exec_ownFrame_timers {c : Instr} (hc : StartsOwnFrame c) {s t : State} (h : exec c s = .next t) :
    (∀ a, t.aspect a = s.aspect a)
      ∨ ((∃ start, s.timing.lossTimer = some start) ∧ ∃ next, t.work .timers = (none, .running next, none))
      ∨ (∃ due, s.timing.freeRun = .running due)
        ∧ ∃ next, t.work .timers = (s.timing.lossTimer, .running next, s.timing.edgeRef) := by
  rcases hc with rfl | rfl | ⟨params, rfl⟩
  · cases ht : s.timing.lossTimer with
    | none =>
      rw [exec_lossTimerExpiry_stopped ht] at h
      cases h
      exact .inl fun _ => rfl
    | some start =>
      rw [exec_lossTimerExpiry_running ht] at h
      cases h
      exact .inr (.inl ⟨⟨start, rfl⟩, _, State.internalStart_timers _ _⟩)
  · by_cases hf : ∃ due, s.timing.freeRun = .running due
    · obtain ⟨due, hf⟩ := hf
      rw [exec_internalFrameStart_running hf] at h
      cases h
      exact .inr (.inr ⟨⟨due, hf⟩, _, State.internalStart_timers _ _⟩)
    · rw [exec_internalFrameStart_notRunning fun due hdue => hf ⟨due, hdue⟩] at h
      cases h
      exact .inl fun _ => rfl
  · have stored (g : LossSetting) (a : Aspect) : (s.storeLoss g).aspect a = s.aspect a :=
      State.aspect_congr rfl rfl rfl rfl ⟨rfl, rfl⟩ a
    cases hg : lossOf params with
    | none =>
      rw [exec_setLoss_refused hg] at h
      cases h
      exact .inl (State.aspect_congr rfl rfl rfl rfl ⟨rfl, rfl⟩)
    | some g =>
      cases ht : s.timing.lossTimer with
      | none =>
        rw [exec_setLoss_stopped hg ht] at h
        cases h
        exact .inl (stored g)
      | some start =>
        rw [exec_setLoss_running hg ht] at h
        cases h
        split
        · exact .inr (.inl ⟨⟨start, rfl⟩, _, State.internalStart_timers _ _⟩)
        · exact .inl (stored g)

/-- With the loss timer or the generator running the device is in RUN with HOLD low. -/
theorem TimingInv.running {s : State} (hi : TimingInv s)
    (h : (∃ start, s.timing.lossTimer = some start) ∨ ∃ due, s.timing.freeRun = .running due) :
    s.sup.op = .run ∧ s.timing.hold = false := by
  obtain ⟨houtside, hheld, _⟩ := hi
  have hrun : s.sup.op = .run := by
    by_contra hop
    obtain ⟨hl, hf, _⟩ := houtside hop
    simp [hl, hf] at h
  refine ⟨hrun, ?_⟩
  by_contra hhold
  obtain ⟨hl, _, hf | hf⟩ := hheld hrun (by simpa using hhold) <;> simp [hl, hf] at h

theorem TimingInv.fsyncEdge {s : State} (hi : TimingInv s) : TimingInv s.fsyncEdge := by
  by_cases hpass : s.sup.op ≠ .run ∨ s.timing.hold = true
  · rwa [State.fsyncEdge_passes hpass]
  · obtain ⟨hrun, hhold⟩ : s.sup.op = .run ∧ s.timing.hold = false := by simpa using hpass
    by_cases hoff : s.timing.freeRun = .off
    · by_cases hrunt : ∃ r, s.timing.edgeRef = some r ∧ s.now - r < 4000
      · obtain ⟨r, href, hearly⟩ := hrunt
        rw [State.fsyncEdge_runt hrun hhold hoff href hearly]
        exact hi
      · rw [State.fsyncEdge_accepted hrun hhold hoff fun r href => Nat.not_lt.1 fun h => hrunt ⟨r, href, h⟩]
        refine .of_timed (start := s.now) (ref := some s.now) (by simpa using hrun) (by simpa using hhold) ?_
        rw [State.frameStart_timers]
        simp only [State.work, hoff]
    · rw [State.fsyncEdge_restores hrun hhold hoff]
      exact .of_timed (by simpa using hrun) (by simpa using hhold) (State.frameStart_timers _)

/-- A HOLD edge that is taken in RUN (R68, R69). -/
theorem TimingInv.holdRise {s : State} (hi : TimingInv s) (time : Nat) :
    TimingInv { s.reach time with timing := s.timing.holdRise s.sup.op } := by
  by_cases hop : s.sup.op = .run
  · refine .of_held hop (by simp) ?_
    simp only [State.work, hop, FrameTiming.holdRise_run]
    split <;> simp
  · refine .of_outside hop ?_
    rw [FrameTiming.holdRise_outside _ hop]
    exact (timingInv_iff.1 hi).1 hop

theorem TimingInv.holdFall {s : State} (hi : TimingInv s) (hhigh : s.timing.hold = true) (time now : Nat) :
    TimingInv { s.reach time with timing := s.timing.holdFall s.sup.op now } := by
  by_cases hop : s.sup.op = .run
  · by_cases hoff : s.timing.freeRun = .off
    · refine .of_timed hop (by simp) (start := now) (ref := s.timing.edgeRef) ?_
      simp only [State.work, hop, FrameTiming.holdFall_run _ hoff, hoff]
    · obtain ⟨hloss, href, _⟩ := hi.2.1 hop hhigh
      refine .of_freeRun hop (by simp) (next := now + 16667) ?_
      simp only [State.work, hop, FrameTiming.holdFall_freeRun _ hoff, hloss, href]
  · refine .of_outside hop ?_
    rw [FrameTiming.holdFall_outside _ _ hop]
    exact (timingInv_iff.1 hi).1 hop

theorem exec_keeps_timingInv {c : Instr} {s t : State} (h : exec c s = .next t) (ho : OperatingInv s)
    (hi : TimingInv s) : TimingInv t := by
  have ownFrame (hc : StartsOwnFrame c) (hop : t.sup.op = s.sup.op) (hhold : t.timing.hold = s.timing.hold) :
      TimingInv t := by
    rcases exec_ownFrame_timers hc h with ha | ⟨hloss, next, ht⟩ | ⟨hfree, next, ht⟩
    · exact hi.congr hop hhold (ha (.work .timers))
    · obtain ⟨hrun, hlow⟩ := hi.running (.inl hloss)
      exact .of_freeRun (hop.trans hrun) (hhold.trans hlow) ht
    · obtain ⟨hrun, hlow⟩ := hi.running (.inr hfree)
      obtain ⟨due, hdue⟩ := hfree
      obtain ⟨hoff, _⟩ | ⟨_, hloss, href⟩ := hi.2.2 hrun hlow
      · simp [hoff] at hdue
      · rw [hloss, href] at ht
        exact .of_freeRun (hop.trans hrun) (hhold.trans hlow) ht
  cases hc : turns c with
  | true =>
    cases exec_turns h hc ho with
    | stays ha =>
      exact hi.congr (congrArg Prod.fst (ha .station nofun)) (ha .hold nofun) (ha (.work .timers) nofun)
    | outside _ hop hw => exact .of_outside hop (hw.idle (timingInv_iff.1 hi).1)
    | entersRun _ hop ht =>
      cases hhold : t.timing.hold with
      | true => exact .of_held hop hhold (.inl (by simpa [hhold] using ht))
      | false => exact .of_timed hop hhold (by simpa [hhold] using ht)
  | false =>
    have hop (hk : touches c .station = false) : t.sup.op = s.sup.op := congrArg Prod.fst (exec_keeps_aspect h hc hk)
    have hhold (hk : touches c .hold = false) : t.timing.hold = s.timing.hold := exec_keeps_aspect h hc hk
    cases c with
    | lossTimerExpiry => exact ownFrame (.inl rfl) (hop rfl) (hhold rfl)
    | internalFrameStart => exact ownFrame (.inr (.inl rfl)) (hop rfl) (hhold rfl)
    | setLoss p => exact ownFrame (.inr (.inr ⟨p, rfl⟩)) (hop rfl) (hhold rfl)
    | fsyncFallingEdge time held high =>
      cases h
      split
      · split
        · exact .fsyncEdge hi
        · exact hi
      · exact hi
    | holdRise time held =>
      cases h
      split
      · exact hi.holdRise time
      · exact hi
    | holdFall time held =>
      cases h
      split
      · next hp => exact hi.holdFall hp.2 time _
      · exact hi
    | killRisingEdge held =>
      cases h
      split <;> exact hi
    | _ => exact hi.congr (hop rfl) (hhold rfl) (exec_keeps_aspect (a := .work .timers) h hc rfl)

/-! ### The poll timer (R135) -/

theorem PollInv.congr {s t : State} (hi : PollInv s) (hop : t.sup.op = s.sup.op) (hm : t.link.mode = s.link.mode)
    (hp : t.link.pollTimer.isSome = s.link.pollTimer.isSome) : PollInv t := by
  unfold PollInv
  rw [hop, hm, hp]
  exact hi

theorem PollInv.of_outside {t : State} (hop : t.sup.op ≠ .run) (hp : t.link.pollTimer = none) : PollInv t := by
  simp [PollInv, hop, hp]

/-- Outside RUN the poll timer is stopped. -/
theorem PollInv.stopped {s : State} (hi : PollInv s) (hop : s.sup.op ≠ .run) : s.link.pollTimer = none := by
  simpa [PollInv, hop] using hi

theorem Link.sendPoll_pollTimer (l : Link) : l.sendPoll.pollTimer = l.pollTimer := by
  unfold Link.sendPoll
  split <;> rfl

/-- After SET LINK the poll timer runs exactly in RUN with the mode setting polled (R135). -/
theorem PollInv.configure {s : State} (hi : PollInv s) (k : LinkSetting) :
    PollInv (State.result .ok { s with link := s.link.configure k s.sup.op s.now }) := by
  show (s.link.pollAfter k s.sup.op s.now).isSome = true ↔ s.sup.op = .run ∧ k.mode = .polled
  unfold Link.pollAfter
  cases hk : k.mode with
  | quiet => simp
  | polled =>
    dsimp only
    split
    · next hrun => simp [hrun.1]
    · next hkept =>
      refine Iff.trans hi ⟨fun h => ⟨h.1, rfl⟩, fun h => ⟨h.1, ?_⟩⟩
      cases hm : s.link.mode with
      | polled => rfl
      | quiet => exact absurd ⟨h.1, .inl hm⟩ hkept

theorem exec_keeps_pollInv {c : Instr} {s t : State} (h : exec c s = .next t) (ho : OperatingInv s) (hi : PollInv s) :
    PollInv t := by
  cases hc : turns c with
  | true =>
    cases exec_turns h hc ho with
    | stays ha _ hm =>
      exact hi.congr (congrArg Prod.fst (ha .station nofun)) hm (congrArg Option.isSome (ha (.work .poll) nofun))
    | outside _ hop hw => exact .of_outside hop (hw.idle (w := .poll) hi.stopped)
    | entersRun _ hop _ hp =>
      have hp : t.link.pollTimer = if t.link.mode = .polled then some t.now else none := hp
      simp only [PollInv, hop, hp, true_and]
      split <;> simp [*]
  | false =>
    have hm (hn : owns c .linkSettings = false) : t.link.mode = s.link.mode :=
      congrArg (fun x => x.2.1) (exec_keeps (p := .linkSettings) h hn)
    cases c with
    | setLink p =>
      cases h
      split
      · split
        · exact hi.configure _
        · exact hi
      · exact hi
    | pollTimerExpiry =>
      cases h
      split
      · next start hstart => exact hi.congr rfl (by simp) (by simp [hstart])
      · exact hi
    | killRisingEdge held =>
      cases h
      split <;> exact hi
    | powerOnReset => cases hc
    | _ =>
      exact hi.congr (congrArg Prod.fst (exec_keeps_aspect (a := .station) h hc rfl)) (hm rfl)
        (congrArg Option.isSome (exec_keeps_aspect (a := .work .poll) h hc rfl))

/-! ### Outside RUN (R86, R99, R113, R117) -/

/-- No map pending, no schedule running, no round and no probe in progress. -/
def State.atRest (s : State) : Prop :=
  s.banks.pend = .empty ∧ s.timing.schedule = none ∧ s.drivers.round = none ∧ s.drivers.probes = []

theorem State.atRest_congr {s t : State} (hs : s.atRest) (hw : ∀ w, t.work w = s.work w) : t.atRest := by
  obtain ⟨hpend, hschedule, hround, hprobes⟩ := hs
  exact ⟨(hw .pend).trans hpend, (hw .schedule).trans hschedule, (hw .round).trans hround,
    (hw .probes).trans hprobes⟩

/-- Without a schedule no band ends; without a round none goes on. -/
theorem State.bandEnded_idle {s : State} (h : s.timing.schedule = none) : s.bandEnded = s := by
  rw [State.bandEnded, h]

theorem State.continueRound_idle {s : State} (h : s.drivers.round = none) : s.continueRound = s := by
  rw [State.continueRound, h]

theorem DriverTable.levelEnded_idle {d : DriverTable} (h : d.round = none) (i : Nat) (x : Ending) :
    d.levelEnded i x = d := by
  unfold DriverTable.levelEnded
  rw [h]
  split
  · contradiction
  · rfl

/-- A recovered entry joins no round where there is none (R111). -/
theorem DriverTable.recover_round_idle {d : DriverTable} (h : d.round = none) (i : Nat) (p : PendState) :
    (d.recover i p).round = none := by
  unfold DriverTable.recover
  split
  · rw [h]
  · exact h

/-- An FSYNC edge outside RUN changes nothing but the clock and FSYNC's level (R65, R189). -/
theorem exec_fsync_outside {time held high : Nat} {s t : State} (h : exec (.fsyncFallingEdge time held high) s = .next t)
    (hop : s.sup.op ≠ .run) (w : Work) : t.work w = s.work w := by
  cases h
  split
  · split
    · rw [State.fsyncEdge_passes (s := (s.fsyncLevel false).reach time) (.inl hop)]
      cases w <;> rfl
    · rfl
  · cases w <;> rfl

/-- With no map pending, pass 2 runs for a voided solve alone, and leaves every work (R46). -/
theorem exec_pass2Zone_voided {s t : State} (h : exec .pass2Zone s = .next t) (hp : PendingInv s)
    (hpend : s.banks.pend = .empty) (w : Work) : t.work w = s.work w := by
  cases h
  split
  · next hphase =>
    have hvoided : s.solver.voided = true := by
      by_contra hkept
      have := hp.1.mpr ⟨by simp [hphase.1], by simpa using hkept⟩
      simp [hpend] at this
    split
    · rw [State.solveEnd_voided_eq (s := s.pass2Step) hvoided]
      cases w <;> rfl
    · cases w <;> rfl
  · rfl

/-- Without a round the ending of a LEVEL, and without a schedule that of a LATCH, leaves every work. -/
theorem exec_levelEnding_idle {status : LinkStatus} {wide : Bool} {s t : State}
    (h : exec (.levelEnding status wide) s = .next t) (hround : s.drivers.round = none) (w : Work) :
    t.work w = s.work w := by
  cases h
  split
  · split
    · rw [DriverTable.levelEnded_idle hround, State.continueRound_idle (by exact hround)]
      cases w <;> rfl
    · cases w <;> rfl
  · rfl

theorem exec_latchEnding_idle {error wide : Bool} {s t : State} (h : exec (.latchEnding error wide) s = .next t)
    (hschedule : s.timing.schedule = none) (w : Work) : t.work w = s.work w := by
  cases h
  split
  · dsimp only
    split
    · cases w <;> rfl
    · split
      · rw [State.bandEnded_idle (by exact hschedule)]
        cases w <;> rfl
      · cases w <;> rfl
  · rfl

/-- A command that does not turn the device leaves it at rest outside RUN. -/
theorem exec_keeps_atRest {c : Instr} {s t : State} (h : exec c s = .next t) (hc : turns c = false)
    (hop : s.sup.op ≠ .run) (hi : TimingInv s) (hp : PendingInv s) (hs : s.atRest) : t.atRest := by
  have ⟨hpend, hschedule, hround, hprobes⟩ := hs
  have same {u : State} (hw : ∀ w, u.work w = s.work w) : u.atRest := State.atRest_congr hs hw
  have keeps (w : Work) (hw : touches c (.work w) = false) : t.work w = s.work w :=
    exec_keeps_aspect (a := .work w) h hc hw
  have ownFrame (hf : StartsOwnFrame c) : t.atRest := by
    rcases exec_ownFrame_timers hf h with ha | ⟨hloss, _⟩ | ⟨hfree, _⟩
    · exact same fun w => ha (.work w)
    · exact absurd (hi.running (.inl hloss)).1 hop
    · exact absurd (hi.running (.inr hfree)).1 hop
  cases c with
  | lossTimerExpiry => exact ownFrame (.inl rfl)
  | internalFrameStart => exact ownFrame (.inr (.inl rfl))
  | setLoss p => exact ownFrame (.inr (.inr ⟨p, rfl⟩))
  | closeFrame record cut =>
    rcases exec_closeFrame_cases h with ⟨_, rfl⟩ | ⟨_, rfl⟩ | ⟨_, hrun, _⟩
    · exact hs
    · exact hs
    · exact absurd hrun hop
  | fsyncFallingEdge time held high => exact same (exec_fsync_outside h hop)
  | pass2Zone => exact same (exec_pass2Zone_voided h hp hpend)
  | latchDue =>
    cases h
    rw [hschedule]
    exact hs
  | levelEnding status wide => exact same (exec_levelEnding_idle h hround)
  | latchEnding error wide => exact same (exec_latchEnding_idle h hschedule)
  | probe p =>
    rw [exec_probe_wrongState hop] at h
    cases h
    exact hs
  | probeConfigEnding status wide =>
    cases h
    split
    · split
      · split
        · exact ⟨hpend, hschedule, DriverTable.recover_round_idle hround _ _, by simpa using hprobes⟩
        · exact ⟨hpend, hschedule, hround, by simp [hprobes]⟩
      · exact hs
    · exact hs
  | transmitChoice =>
    cases h
    split
    · refine ⟨hpend, hschedule, hround, ?_⟩
      simp only [Link.probesAfterChoice, hprobes, List.filter_nil]
      split <;> rfl
    · exact hs
  | start | stop | rearm | softReset | killFallingEdge | powerOnReset | discoveryConfigEnding | readEnding => cases hc
  | _ =>
    exact ⟨(keeps .pend rfl).trans hpend, (keeps .schedule rfl).trans hschedule, (keeps .round rfl).trans hround,
      (keeps .probes rfl).trans hprobes⟩

theorem exec_keeps_outsideRunInv {c : Instr} {s t : State} (h : exec c s = .next t) (ho : OperatingInv s)
    (hi : TimingInv s) (hp : PendingInv s) (hr : OutsideRunInv s) : OutsideRunInv t := by
  intro hop
  cases hc : turns c with
  | true =>
    cases exec_turns h hc ho with
    | stays ha hprobes =>
      have hsame : t.sup.op = s.sup.op := congrArg Prod.fst (ha .station nofun)
      obtain ⟨hpend, hschedule, hround, hnone⟩ := hr (hsame ▸ hop)
      exact ⟨(ha (.work .pend) nofun).trans hpend, (ha (.work .schedule) nofun).trans hschedule,
        (ha (.work .round) nofun).trans hround, hprobes hnone⟩
    | outside _ _ hw =>
      have rest (w : Work) (hidle : s.atRest → s.work w = w.idle) : t.work w = w.idle :=
        hw.idle fun hs => hidle (hr hs)
      exact ⟨rest .pend fun ⟨hpend, _⟩ => hpend, rest .schedule fun ⟨_, hschedule, _⟩ => hschedule,
        rest .round fun ⟨_, _, hround, _⟩ => hround, rest .probes fun ⟨_, _, _, hnone⟩ => hnone⟩
    | entersRun _ hrun => exact absurd hrun hop
  | false =>
    have hsame : t.sup.op = s.sup.op := by
      cases c with
      | killRisingEdge held =>
        cases h
        split <;> rfl
      | softReset | stop | powerOnReset | killFallingEdge | start | rearm | discoveryConfigEnding | readEnding => cases hc
      | _ => exact congrArg Prod.fst (exec_keeps_aspect (a := .station) h hc rfl)
    have hs : s.sup.op ≠ .run := hsame ▸ hop
    exact exec_keeps_atRest h hc hs hi hp (hr hs)

/-- Settles O58: a command either turns the device, in one of the ways of `Turn`, or leaves operating state and
discovery; a microsecond with nothing to take leaves all of it. -/
theorem everyStepKeepsTheOperatingState : Obligations.EveryStepKeepsTheOperatingState := by
  intro s t h
  rcases step_cases h with rfl | ⟨c, rest, hc⟩
  · exact ⟨id, fun _ => id, fun _ => id, fun _ _ _ => id⟩
  · exact ⟨fun hi => exec_keeps_operatingInv hc hi, fun ho hi => exec_keeps_timingInv hc ho hi,
      fun ho hi => exec_keeps_pollInv hc ho hi, fun ho hi hp hr => exec_keeps_outsideRunInv hc ho hi hp hr⟩

end Sys2Proof.Machine

/-! ## STOP, KILL and REARM (O50, O51) -/

namespace Sys2Proof.Machine

open Sys2Proof

/-! ### What STOP and KILL end on the link (R126, R127, R132) -/

/-- The claim of a message in flight is withdrawn, but for a BLANK. -/
theorem Link.quench_line_message {l : Link} {m : InFlight} (h : l.line = .message m) :
    l.quench.line = .message { m with claim := m.claim && decide (m.msg = .blank) } := by
  simp [Link.quench, Link.withdraw, h]

theorem Link.quench_line_of_ne {l : Link} (h : ∀ m, l.line ≠ .message m) : l.quench.line = l.line := by
  unfold Link.quench Link.withdraw
  dsimp only
  split
  · next m hm => exact absurd hm (h m)
  · rfl

/-- A BLANK alone keeps its resend. -/
theorem Link.quench_resend_some {l : Link} {m : InFlight} (h : l.resend = some m) :
    l.quench.resend = if m.msg = .blank then some m else none := by
  simp [Link.quench, h]

theorem Link.quench_resend_none {l : Link} (h : l.resend = none) : l.quench.resend = none := by
  simp [Link.quench, h]

/-! ### What they end of the frame clock (R86, R99) -/

/-- The frame clock with the schedule cancelled, and in RUN with the timers stopped. -/
def State.endedTiming (s : State) : FrameTiming :=
  if s.sup.op = .run then s.timing.cancel.leaveRun else s.timing.cancel

theorem State.endedTiming_run {s : State} (h : s.sup.op = .run) : s.endedTiming = s.timing.cancel.leaveRun := if_pos h

theorem State.endedTiming_keeps (s : State) :
    s.endedTiming.schedule = none ∧ s.endedTiming.gateOpen = true ∧ s.endedTiming.tf = s.timing.tf
      ∧ s.endedTiming.hold = s.timing.hold ∧ s.endedTiming.fsync = s.timing.fsync
      ∧ (s.sup.op = .run →
          s.endedTiming.edgeRef = none ∧ s.endedTiming.lossTimer = none ∧ s.endedTiming.freeRun = .off) := by
  unfold State.endedTiming
  split
  · exact ⟨rfl, rfl, rfl, rfl, rfl, fun _ => ⟨rfl, rfl, rfl⟩⟩
  · next hop => exact ⟨rfl, rfl, rfl, rfl, rfl, fun h => absurd h hop⟩

/-! ### STOP (R180) -/

theorem exec_stop_safe {params : List Byte} {s : State} (h : s.sup.op = .safe) :
    exec (.stop params) s = .next (s.result .wrongState) := by
  show execStop params s = _
  rw [execStop, h]

theorem exec_stop_standby {params : List Byte} {s : State} (h : s.sup.op = .standby) :
    exec (.stop params) s = .next (s.result .ok) := by
  show execStop params s = _
  rw [execStop, h]

/-- The device as a STOP leaves DISCOVERY or RUN. -/
def State.stopped (s : State) : State :=
  State.result .ok
    { s.endOperations with
      sup := { s.sup with op := .standby }
      timing := s.endedTiming }

theorem exec_stop_working {params : List Byte} {s : State} (h : s.sup.op = .discovery ∨ s.sup.op = .run) :
    exec (.stop params) s = .next s.stopped := by
  show execStop params s = _
  rcases h with h | h <;> simp only [execStop, State.stopped, State.endedTiming, h] <;> rfl

/-! ### The KILL pin (R181, R189) -/

theorem exec_killFallingEdge_ignored {held : Nat} {s : State} (h : held < 4 ∨ s.sup.kill = false) :
    exec (.killFallingEdge held) s = .next s := by
  show execKillFallingEdge held s = _
  rw [execKillFallingEdge, if_neg (not_pinTaken_and h)]

theorem exec_killFallingEdge_taken {held : Nat} {s : State} (h : 4 ≤ held) (hhigh : s.sup.kill = true) :
    exec (.killFallingEdge held) s =
      .next (State.safetyEntry { s with sup := { s.sup with kill := false } }) := by
  show execKillFallingEdge held s = _
  rw [execKillFallingEdge, if_pos ⟨pinTaken_iff.2 h, hhigh⟩]

/-- A safety entry sets operating state and latch, and the resume target by where the device stood. -/
theorem State.safetyEntry_sup (s : State) :
    s.safetyEntry.sup =
      { s.sup with
        op := .safe, latch := .held
        resume := if s.sup.op = .safe then s.sup.resume
          else if s.sup.op = .standby then .standby else .discovery } := by
  cases hop : s.sup.op <;> simp [State.safetyEntry, hop]

/-- Settles O50: STOP in each operating state, and the KILL edge; both end every operation. -/
theorem stopAndKillEndEveryOperation : Obligations.StopAndKillEndEveryOperation := by
  refine ⟨fun params s => ⟨exec_stop_safe, exec_stop_standby, fun hop => ⟨_, exec_stop_working hop, ?_⟩⟩,
    fun held s => ⟨exec_killFallingEdge_ignored, fun h hhigh => ⟨_, exec_killFallingEdge_taken h hhigh, ?_⟩⟩⟩
  · obtain ⟨hschedule, hgate, htf, hhold, hfsync, htimers⟩ := s.endedTiming_keeps
    exact ⟨rfl, rfl, rfl, hschedule, hgate, htf, hhold, hfsync, htimers, rfl, rfl, rfl, rfl,
      s.drivers.entryAt_endWork, rfl, rfl, fun m => Link.quench_line_message, Link.quench_line_of_ne,
      fun m => Link.quench_resend_some, Link.quench_resend_none, rfl, rfl, rfl, rfl, rfl, rfl⟩
  · obtain ⟨hschedule, hgate, htf, hhold, hfsync, htimers⟩ := s.endedTiming_keeps
    exact ⟨State.safetyEntry_sup _, rfl, rfl, hschedule, hgate, htf, hhold, hfsync, htimers, rfl, rfl, rfl, rfl,
      s.drivers.entryAt_endWork, rfl, rfl, fun m => Link.quench_line_message, Link.quench_line_of_ne,
      fun m => Link.quench_resend_some, Link.quench_resend_none, rfl, rfl, by simp [State.salertLow, State.safetyEntry_sup],
      rfl, rfl, rfl, rfl⟩

/-! ### KILL's rising edge (R181, R189) -/

theorem exec_killRisingEdge_ignored {held : Nat} {s : State} (h : held < 4 ∨ s.sup.kill = true) :
    exec (.killRisingEdge held) s = .next s := by
  show execKillRisingEdge held s = _
  rw [execKillRisingEdge, if_neg (not_pinTaken_and h)]

theorem exec_killRisingEdge_taken {held : Nat} {s : State} (h : 4 ≤ held) (hlow : s.sup.kill = false) :
    exec (.killRisingEdge held) s = .next
      { s with
        sup :=
          { s.sup with
            kill := true
            latch := if s.sup.op = .safe ∧ s.sup.latch = .held then .released else s.sup.latch } } := by
  show execKillRisingEdge held s = _
  rw [execKillRisingEdge, if_pos ⟨pinTaken_iff.2 h, hlow⟩]

/-! ### REARM (R182) -/

theorem exec_rearm_refused {params : List Byte} {s : State} (h : s.sup.op ≠ .safe ∨ s.sup.latch ≠ .released) :
    exec (.rearm params) s = .next (s.result .wrongState) := by
  show execRearm params s = _
  rw [execRearm, if_neg fun ⟨hop, hlatch⟩ => h.elim (· hop) (· hlatch)]

/-- The device as a REARM takes it out of SAFE, before discovery begins again. -/
def State.rearmed (s : State) : State :=
  { s with
    banks := s.banks.clearActive
    sup := { s.sup with lastResult := .ok, latch := .clear, op := .standby } }

theorem exec_rearm_toStandby {params : List Byte} {s : State} (hop : s.sup.op = .safe)
    (hlatch : s.sup.latch = .released) (hresume : s.sup.resume = .standby) :
    exec (.rearm params) s = .next s.rearmed := by
  show execRearm params s = _
  rw [execRearm, if_pos ⟨hop, hlatch⟩, hresume]
  rfl

theorem exec_rearm_toDiscovery {params : List Byte} {s : State} (hop : s.sup.op = .safe)
    (hlatch : s.sup.latch = .released) (hresume : s.sup.resume = .discovery) :
    exec (.rearm params) s = .next s.rearmed.enterDiscovery := by
  show execRearm params s = _
  rw [execRearm, if_pos ⟨hop, hlatch⟩, hresume]
  rfl

/-- Settles O51: KILL's rising edge, then REARM refused and taken. -/
theorem rearmLeavesSafeOnceReleased : Obligations.RearmLeavesSafeOnceReleased := by
  rintro params held s _ rfl
  refine ⟨exec_killRisingEdge_ignored, fun h hlow hop hlatch => ?_, fun h hlow hother => ?_, exec_rearm_refused,
    exec_rearm_toStandby, exec_rearm_toDiscovery⟩
  · rw [exec_killRisingEdge_taken h hlow, if_pos ⟨hop, hlatch⟩]
  · rw [exec_killRisingEdge_taken h hlow, if_neg fun ⟨hop, hlatch⟩ => hother.elim (· hop) (· hlatch)]

end Sys2Proof.Machine

/-! ## Shipping rounds and broadcasts (O28, O33) -/

namespace Sys2Proof.Machine

open Sys2Proof

/-! ### The list of a round (R109) -/

theorem DriverEntry.shippable_iff {e : DriverEntry} :
    e.shippable = true ↔ e.state = .reachable ∨ e.state = .failing := by simp [DriverEntry.shippable]

/-- The list of a round is in index order. -/
theorem DriverTable.shippable_pairwise (d : DriverTable) : d.shippable.Pairwise (· < ·) := by
  rw [DriverTable.shippable, DriverTable.present, List.filter_filterMap, List.map_filterMap, List.pairwise_filterMap]
  refine List.pairwise_lt_range.imp fun {i j} hlt x hx y hy => ?_
  have index {k z : Nat} (hz : Option.map Prod.fst
      (((d.entryAt k).map fun e => (k, e)).filter fun p => p.2.shippable) = some z) : z = k := by
    simp only [Option.map_eq_some_iff, Option.filter_eq_some_iff] at hz
    obtain ⟨_, ⟨⟨f, _, rfl⟩, _⟩, rfl⟩ := hz
    rfl
  rw [index hx, index hy]
  exact hlt

/-! ### The rotation READ (R115) -/

/-- The entry at which the rotation looks first. -/
def DriverTable.rotationStart (d : DriverTable) : Nat := (d.rotation.map fun x => x + 1).getD 0

/-- How many entries the rotation passes before this one. -/
def DriverTable.rotationDistance (d : DriverTable) (i : Nat) : Nat := (i + 48 - d.rotationStart) % 48

/-- The rotation finds the shippable entry that it comes to first. -/
theorem DriverTable.nextRotation_some {d : DriverTable} {i : Nat} {e : DriverEntry} (hi : i < 48)
    (he : d.entryAt i = some e) (hship : e.shippable = true)
    (hfirst : ∀ k f, k < 48 → d.entryAt k = some f → f.shippable = true → d.rotationDistance i ≤ d.rotationDistance k)
    (hrot : ∀ x, d.rotation = some x → x < 48) : d.nextRotation = some i := by
  have hstart : d.rotationStart ≤ 48 := by
    unfold DriverTable.rotationStart
    cases hx : d.rotation with
    | none => simp
    | some x => simpa using hrot x hx
  have hdef : d.nextRotation =
      ((List.range 48).map fun k => (d.rotationStart + k) % 48).find? fun i =>
        match d.entryAt i with
        | some e => e.shippable
        | none => false := by
    unfold DriverTable.nextRotation DriverTable.rotationStart
    cases d.rotation <;> rfl
  have hback (k : Nat) (hk : k < 48) : (d.rotationStart + d.rotationDistance k) % 48 = k := by
    unfold DriverTable.rotationDistance
    omega
  have hround (j : Nat) (hj : j < 48) : d.rotationDistance ((d.rotationStart + j) % 48) = j := by
    unfold DriverTable.rotationDistance
    omega
  rw [hdef, List.find?_map, List.find?_range_eq_some.2, Option.map_some, hback i hi]
  refine ⟨?_, List.mem_range.2 (Nat.mod_lt _ (by decide)), fun j hj => ?_⟩
  · simp [hback i hi, he, hship]
  · have hj48 : j < 48 := hj.trans (Nat.mod_lt _ (by decide))
    cases hf : d.entryAt ((d.rotationStart + j) % 48) with
    | none => simp [hf]
    | some f =>
      by_contra hno
      have hfship : f.shippable = true := by simpa [hf] using hno
      have := hfirst _ f (Nat.mod_lt _ (by decide)) hf hfship
      rw [hround j hj48] at this
      omega

/-! ### The map SHIPPED (R74, R115) -/

theorem State.mapShipped_banks {s : State} (hp : s.banks.pend = .solved) (hg : s.timing.gateOpen = true) :
    s.mapShipped.banks = { s.banks with pend := .shipped } := by
  unfold State.mapShipped
  rw [if_pos ⟨hp, hg⟩]
  dsimp only
  (repeat' split) <;> rfl

/-- A rotation READ that still waits is the only one. -/
theorem State.mapShipped_waits {s : State} (hp : s.banks.pend = .solved) (hg : s.timing.gateOpen = true)
    (hq : ∃ m ∈ s.link.queue, m.isRotation = true) :
    s.mapShipped = { s with banks := { s.banks with pend := .shipped } } := by
  rw [State.mapShipped, if_pos ⟨hp, hg⟩]
  exact if_pos (List.any_eq_true.2 hq)

theorem State.mapShipped_reads {s : State} {i : Nat} {e : DriverEntry} (hp : s.banks.pend = .solved)
    (hg : s.timing.gateOpen = true) (hq : ∀ m ∈ s.link.queue, m.isRotation = false)
    (hnext : s.drivers.nextRotation = some i) (he : s.drivers.entryAt i = some e) :
    s.mapShipped =
      { s with
        banks := { s.banks with pend := .shipped }
        drivers := { s.drivers with rotation := some i }
        link := s.link.send (.read i e.addr .rotation) } := by
  have hnone : ¬s.link.queue.any Message.isRotation = true := by simpa using hq
  rw [State.mapShipped, if_pos ⟨hp, hg⟩]
  dsimp only
  rw [if_neg hnone, hnext]
  dsimp only
  rw [he]

/-- Settles O33: the list of a round, its next LEVEL, and the map SHIPPED with the rotation READ of the entry in turn. -/
theorem roundsShipEveryListedEntryThenTheMapIsShipped :
    Obligations.RoundsShipEveryListedEntryThenTheMapIsShipped := by
  intro s
  refine ⟨⟨fun i => ?_, s.drivers.shippable_pairwise⟩, fun i list e hround he => ?_, fun hround hp hg => ?_⟩
  · simp only [DriverTable.mem_shippable, DriverEntry.shippable_iff]
  · rw [State.continueRound_head hround he, State.levelFor_eq]
  · rw [State.continueRound_nil hround]
    refine ⟨State.mapShipped_banks hp hg, State.mapShipped_waits hp hg, fun hq => ⟨fun hnobody => ?_,
      fun i e hi he hstate hfirst hrot => ?_⟩⟩
    · exact State.mapShipped_alone hp hg (DriverTable.nextRotation_none hnobody)
    · exact State.mapShipped_reads hp hg hq (DriverTable.nextRotation_some hi he (DriverEntry.shippable_iff.2 hstate)
        (fun k f hk hf hship => hfirst k f hk hf (DriverEntry.shippable_iff.1 hship)) hrot) he

/-! ### The ending of a broadcast (R91, R126, R127) -/

/-- A resend follows an error report while the claim stands, and twice at most (R127). -/
theorem InFlight.resendAfter_iff {m : InFlight} {error : Bool} :
    m.resendAfter error = true ↔ error = true ∧ m.claim = true ∧ m.resends < 2 := by
  simp [InFlight.resendAfter, Config.resends, and_assoc]

theorem exec_latchEnding_resent {tag : Tag} {band resends : Nat} {claim kept error wide : Bool} {s : State}
    (hline : s.link.line = .message ⟨.latch tag band, claim, resends, kept⟩)
    (h : error = true ∧ claim = true ∧ resends < 2) :
    exec (.latchEnding error wide) s = .next
      { s with link := { s.link.finish wide with resend := some ⟨.latch tag band, claim, resends + 1, kept⟩ } } := by
  show execLatchEnding error s wide = _
  rw [execLatchEnding, hline]
  exact congrArg _ (if_pos (InFlight.resendAfter_iff.2 h))

/-- A LATCH with its claim withdrawn is dropped (R126). -/
theorem exec_latchEnding_withdrawn {tag : Tag} {band resends : Nat} {kept error wide : Bool} {s : State}
    (hline : s.link.line = .message ⟨.latch tag band, false, resends, kept⟩) :
    exec (.latchEnding error wide) s = .next { s with link := s.link.finish wide } := by
  show execLatchEnding error s wide = _
  rw [execLatchEnding, hline]
  exact congrArg _ ((if_neg fun h => by simpa using InFlight.resendAfter_iff.1 h).trans (if_neg nofun))

/-- A LATCH that is not resent counts as sent (R91). -/
theorem exec_latchEnding_sent {tag : Tag} {band resends : Nat} {kept error wide : Bool} {s : State}
    (hline : s.link.line = .message ⟨.latch tag band, true, resends, kept⟩) (h : error = false ∨ 2 ≤ resends) :
    exec (.latchEnding error wide) s = .next (State.bandEnded { s with link := s.link.finish wide }) := by
  have hno : ¬(⟨.latch tag band, true, resends, kept⟩ : InFlight).resendAfter error = true := fun hr => by
    obtain ⟨herror, _, hlt⟩ := InFlight.resendAfter_iff.1 hr
    exact h.elim (by simp [herror]) fun hle => Nat.not_lt.2 hle hlt
  show execLatchEnding error s wide = _
  rw [execLatchEnding, hline]
  exact congrArg _ ((if_neg hno).trans (if_pos rfl))

theorem exec_blankEnding_resent {resends : Nat} {claim kept error wide : Bool} {s : State}
    (hline : s.link.line = .message ⟨.blank, claim, resends, kept⟩) (h : error = true ∧ claim = true ∧ resends < 2) :
    exec (.blankEnding error wide) s = .next
      { s with link := { s.link.finish wide with resend := some ⟨.blank, claim, resends + 1, kept⟩ } } := by
  show execBlankEnding error s wide = _
  rw [execBlankEnding, hline]
  exact congrArg _ (if_pos (InFlight.resendAfter_iff.2 h))

theorem exec_blankEnding_sent {resends : Nat} {claim kept error wide : Bool} {s : State}
    (hline : s.link.line = .message ⟨.blank, claim, resends, kept⟩) (h : error = false ∨ claim = false ∨ 2 ≤ resends) :
    exec (.blankEnding error wide) s = .next { s with link := s.link.finish wide } := by
  have hno : ¬(⟨.blank, claim, resends, kept⟩ : InFlight).resendAfter error = true := fun hr => by
    obtain ⟨herror, hclaim, hlt⟩ := InFlight.resendAfter_iff.1 hr
    have hclaim : claim = true := hclaim
    rcases h with h | h | h
    · simp [h] at herror
    · simp [h] at hclaim
    · exact Nat.not_lt.2 h hlt
  show execBlankEnding error s wide = _
  rw [execBlankEnding, hline]
  exact congrArg _ (if_neg hno)

/-! ### The end of a band (R91, R97) -/

theorem State.bandEnded_more {s : State} {c : Schedule} (hc : s.timing.schedule = some c)
    (h : c.ended + 1 < c.bands) :
    s.bandEnded = { s with timing := { s.timing with schedule := some { c with ended := c.ended + 1 } } } := by
  rw [State.bandEnded, hc]
  exact if_pos h

/-- The device as the ending of the last band's LATCH finds it: the schedule IDLE and the gate OPEN. -/
def State.bandsDone (s : State) (wide : Bool) : State :=
  { s with link := s.link.finish wide, timing := s.timing.cancel }

/-- What the round that then begins leaves alone. -/
theorem State.bandsDone_beginRound (s : State) (wide : Bool) :
    (s.bandsDone wide).beginRound.timing.schedule = none ∧ (s.bandsDone wide).beginRound.timing.gateOpen = true
      ∧ (s.bandsDone wide).beginRound.zone = s.zone ∧ (s.bandsDone wide).beginRound.solver = s.solver
      ∧ (s.bandsDone wide).beginRound.banks.active = s.banks.active
      ∧ (s.bandsDone wide).beginRound.thermal = s.thermal ∧ (s.bandsDone wide).beginRound.events = s.events
      ∧ (s.bandsDone wide).beginRound.picture = s.picture ∧ (s.bandsDone wide).beginRound.sup = s.sup := by
  simp [State.bandsDone]

/-- With the last band's LATCH sent, a waiting map's round begins. -/
theorem exec_latchEnding_last {tag : Tag} {band resends : Nat} {kept error wide : Bool} {s : State} {c : Schedule}
    (hline : s.link.line = .message ⟨.latch tag band, true, resends, kept⟩) (hsent : error = false ∨ 2 ≤ resends)
    (hc : s.timing.schedule = some c) (h : c.bands ≤ c.ended + 1) :
    exec (.latchEnding error wide) s = .next (s.bandsDone wide).beginRound := by
  have hlast : State.bandEnded { s with link := s.link.finish wide } = (s.bandsDone wide).beginRound := by
    rw [State.bandEnded]
    simp only [hc]
    exact if_neg (Nat.not_lt.2 h)
  rw [exec_latchEnding_sent hline hsent, hlast]

/-- Settles O28: the ending of a LATCH resent, dropped or sent, with the band that it ends; and that of a BLANK. -/
theorem broadcastsAreResentAtMostTwice : Obligations.BroadcastsAreResentAtMostTwice := by
  refine ⟨fun tag band resends claim kept error wide s l hline hl => ?_,
    fun resends claim kept error wide s l hline hl => ?_⟩
  · obtain rfl : l = s.link.finish wide := hl
    refine ⟨fun herror hclaim hlt => ?_, fun hclaim => ?_, fun hclaim hsent => ?_⟩
    · subst hclaim
      exact exec_latchEnding_resent hline ⟨herror, rfl, hlt⟩
    · subst hclaim
      exact exec_latchEnding_withdrawn hline
    · subst hclaim
      refine ⟨fun hnone => ?_, fun c hc hmore => ?_, fun c hc hlast => ⟨_, exec_latchEnding_last hline hsent hc hlast, ?_⟩⟩
      · rw [exec_latchEnding_sent hline hsent, State.bandEnded_idle (by exact hnone)]
      · rw [exec_latchEnding_sent hline hsent, State.bandEnded_more (by exact hc) hmore]
      · obtain ⟨hschedule, hgate, hzone, hsolver, hactive, hthermal, hevents, hpicture, hsup⟩ :=
          s.bandsDone_beginRound wide
        refine ⟨hschedule, hgate, hzone, hsolver, hactive, hthermal, hevents, hpicture, hsup, fun hp => ?_, fun hp => ?_⟩
        · exact State.beginRound_idle (s := s.bandsDone wide) (.inl hp)
        · have hsolved : (s.bandsDone wide).banks.pend = .solved := hp
          rw [State.beginRound_drivers hsolved rfl]
          refine ⟨s.drivers.entryAt_openRound_state, fun hnobody => ?_, fun i rest e hlist he => ?_⟩
          · rw [State.beginRound_nobody hsolved rfl hnobody, ← hnobody]
            rfl
          · rw [State.beginRound_offers hsolved rfl hlist he, State.levelFor_eq]
            rfl
  · obtain rfl : l = s.link.finish wide := hl
    refine ⟨fun herror hclaim hlt => ?_, fun hsent => exec_blankEnding_sent hline hsent⟩
    subst hclaim
    exact exec_blankEnding_resent hline ⟨herror, rfl, hlt⟩

end Sys2Proof.Machine

/-! ## Discovery (O31) -/

namespace Sys2Proof.Machine

open Sys2Proof

/-! ### The ending of a discovery CONFIG (R106, R108, R125) -/

/-- The one status that is ACCEPT: the turnaround period high and both status periods 0 (R125). -/
theorem endingOf_eq_accept_iff {status : LinkStatus} : endingOf status = .accept ↔ status = ⟨true, 0⟩ := by
  obtain ⟨turnaround, bits⟩ := status
  unfold endingOf
  cases turnaround with
  | false => simp
  | true =>
    by_cases h : bits = 0
    · simp [h]
    · simp only [h, LinkStatus.mk.injEq, and_false, iff_false]
      (repeat' split) <;> simp_all

theorem DriverTable.setState_eq {d : DriverTable} {i : Nat} {e : DriverEntry} (he : d.entryAt i = some e)
    (x : DriverState) : d.setState i x = d.put i (some { e with state := x }) := by
  rw [DriverTable.setState, he]

theorem exec_discoveryConfigEnding_withdrawn {i addr pwm cur w h resends : Nat} {kept wide : Bool} {status : LinkStatus}
    {s : State} (hline : s.link.line = .message ⟨.config i addr pwm cur w h false, false, resends, kept⟩) :
    exec (.discoveryConfigEnding status wide) s = .next { s with link := s.link.finish wide } := by
  show execDiscoveryConfigEnding status s wide = _
  rw [execDiscoveryConfigEnding, hline]
  exact congrArg _ (if_neg nofun)

/-- ACCEPT makes the entry REACHABLE, and its READ follows (R106). -/
theorem exec_discoveryConfigEnding_accept {i addr pwm cur w h resends : Nat} {kept wide : Bool} {status : LinkStatus}
    {s : State} (hline : s.link.line = .message ⟨.config i addr pwm cur w h false, true, resends, kept⟩)
    (hstatus : endingOf status = .accept) :
    exec (.discoveryConfigEnding status wide) s = .next
      { s with
        link := (s.link.finish wide).send (.read i addr .discovery)
        drivers := s.drivers.setState i .reachable } := by
  show execDiscoveryConfigEnding status s wide = _
  rw [execDiscoveryConfigEnding, hline]
  exact congrArg _ ((if_pos rfl).trans (if_pos hstatus))

/-- Any other ending makes it UNREACHABLE, and ends its work (R106). -/
theorem exec_discoveryConfigEnding_lost {i addr pwm cur w h resends : Nat} {kept wide : Bool} {status : LinkStatus}
    {s : State} (hline : s.link.line = .message ⟨.config i addr pwm cur w h false, true, resends, kept⟩)
    (hstatus : endingOf status ≠ .accept) :
    exec (.discoveryConfigEnding status wide) s = .next
      (State.discoveryNext <| State.post .driverUnreachable (some i) none none
        { s with link := s.link.finish wide, drivers := s.drivers.setState i .unreachable }) := by
  show execDiscoveryConfigEnding status s wide = _
  rw [execDiscoveryConfigEnding, hline]
  exact congrArg _ ((if_pos rfl).trans (if_neg hstatus))

/-! ### Where discovery goes next (R105, R107) -/

/-- The first present entry from an index on. -/
theorem DriverTable.find_present {d : DriverTable} {first j : Nat} {e : DriverEntry} (hj : first ≤ j) (hlt : j < 48)
    (he : d.entryAt j = some e) (hnone : ∀ k, first ≤ k → k < j → d.entryAt k = none) :
    d.present.find? (fun p => decide (first ≤ p.1)) = some (j, e) := by
  rw [DriverTable.present, List.find?_filterMap, List.find?_range_eq_some.2, Option.bind_some, he, Option.map_some]
  refine ⟨by simp [he, hj], List.mem_range.2 hlt, fun k hk => ?_⟩
  by_cases hfirst : first ≤ k
  · simp [hnone k hfirst hk]
  · cases d.entryAt k <;> simp [hfirst]

theorem DriverTable.find_present_none {d : DriverTable} {first : Nat} (hnone : ∀ k, first ≤ k → d.entryAt k = none) :
    d.present.find? (fun p => decide (first ≤ p.1)) = none := by
  rw [List.find?_eq_none]
  rintro ⟨k, e⟩ hk hfirst
  obtain ⟨_, he⟩ := (d.mem_present k e).1 hk
  simp [hnone k (by simpa using hfirst)] at he

theorem State.discoverFrom_some {s : State} {first j : Nat} {e : DriverEntry}
    (h : s.drivers.present.find? (fun p => decide (first ≤ p.1)) = some (j, e)) :
    s.discoverFrom first =
      { s with drivers := { s.drivers with discovery := some j }, link := s.link.send (configFor j e false) } := by
  rw [State.discoverFrom, h]

theorem State.discoverFrom_none {s : State} {first : Nat}
    (h : s.drivers.present.find? (fun p => decide (first ≤ p.1)) = none) : s.discoverFrom first = s.discoveryEnd := by
  rw [State.discoverFrom, h]

theorem State.discoveryNext_some {s : State} {i : Nat} (h : s.drivers.discovery = some i) :
    s.discoveryNext = s.discoverFrom (i + 1) := by
  rw [State.discoveryNext, h]

/-- Some entry is REACHABLE as discovery ends. -/
theorem DriverInv.any_reachable_iff {s : State} (hi : DriverInv s) :
    (s.drivers.present.any fun p => decide (p.2.state = .reachable)) = true ↔
      ∃ j e, s.drivers.entryAt j = some e ∧ e.state = .reachable := by
  obtain ⟨hrange, _⟩ := hi
  simp only [List.any_eq_true, Prod.exists, DriverTable.mem_present, decide_eq_true_eq]
  constructor
  · rintro ⟨j, e, ⟨_, he⟩, hstate⟩
    exact ⟨j, e, he, hstate⟩
  · rintro ⟨j, e, he, hstate⟩
    exact ⟨j, e, ⟨(hrange j e he).1, he⟩, hstate⟩

/-- With an entry REACHABLE discovery ends in RUN (R85, R107). -/
theorem State.discoveryEnd_run {s : State} (hi : DriverInv s)
    (h : ∃ j e, s.drivers.entryAt j = some e ∧ e.state = .reachable) : s.discoveryEnd = s.enterRun :=
  if_pos (hi.any_reachable_iff.2 h)

/-- With none it ends in STANDBY (R107, R132). -/
theorem State.discoveryEnd_standby {s : State} (hi : DriverInv s)
    (h : ∀ j e, s.drivers.entryAt j = some e → e.state ≠ .reachable) :
    s.discoveryEnd =
      State.post .discoveryEmpty none none none
        { s with
          sup := { s.sup with op := .standby }
          drivers := { s.drivers with discovery := none }
          link := { s.link with queue := s.link.queue.filter fun m => !m.isAttention } } :=
  if_neg fun hany => by
    obtain ⟨j, e, he, hstate⟩ := hi.any_reachable_iff.1 hany
    exact h j e he hstate

/-- Settles O31: the ending of a CONFIG, then the next entry's CONFIG, RUN, or STANDBY. -/
theorem discoveryWorksThroughTheEntries : Obligations.DiscoveryWorksThroughTheEntries := by
  refine ⟨fun i addr pwm cur w h resends claim kept wide status s l hline hl => ?_,
    fun i s t hi hdiscovery ht => ⟨fun j e hij he hbetween => ?_, fun hlast => ⟨fun hsome => ?_, fun hnone => ?_⟩⟩⟩
  · obtain rfl : l = s.link.finish wide := hl
    refine ⟨fun hclaim => ?_, fun e hclaim he hstatus => ?_, fun e hclaim he hstatus => ?_⟩
    · subst hclaim
      exact exec_discoveryConfigEnding_withdrawn hline
    · subst hclaim
      refine ⟨_, exec_discoveryConfigEnding_accept hline (endingOf_eq_accept_iff.2 hstatus), fun j => ?_, ?_⟩
      · simp [DriverTable.setState_eq he]
      · rw [DriverTable.setState_eq he]
        rfl
    · subst hclaim
      refine ⟨_, fun j => ?_, ?_, exec_discoveryConfigEnding_lost hline (mt endingOf_eq_accept_iff.1 hstatus)⟩
      · simp [DriverTable.setState_eq he]
      · rw [DriverTable.setState_eq he]
        rfl
  · have hlt : j < 48 := (hi.1 j e he).1
    rw [ht, State.discoveryNext_some hdiscovery,
      State.discoverFrom_some (DriverTable.find_present hij hlt he fun k hk => hbetween k hk)]
    rfl
  · rw [ht, State.discoveryNext_some hdiscovery,
      State.discoverFrom_none (DriverTable.find_present_none fun k hk => hlast k hk), State.discoveryEnd_run hi hsome]
    rfl
  · rw [ht, State.discoveryNext_some hdiscovery,
      State.discoverFrom_none (DriverTable.find_present_none fun k hk => hlast k hk), State.discoveryEnd_standby hi hnone]
    rfl

end Sys2Proof.Machine

/-! ## The link: queue order, stop pulses and LEVELs (O59) -/

namespace Sys2Proof.Machine

open Sys2Proof

/-! ### What the parts of the link are to keep -/

/-- A transmit queue in class order with at most one BLANK and one POLL (R130, R131, R135). -/
def QueueInOrder (q : List Message) : Prop :=
  (q.Pairwise fun a b => a.cls ≤ b.cls) ∧ q.count .blank ≤ 1 ∧ q.count .poll ≤ 1

theorem queueInv_iff {s : State} : QueueInv s ↔ QueueInOrder s.link.queue := .rfl

theorem QueueInOrder.sublist {q r : List Message} (h : QueueInOrder q) (hr : r.Sublist q) : QueueInOrder r := by
  obtain ⟨horder, hblank, hpoll⟩ := h
  exact ⟨horder.sublist hr, (hr.count_le _).trans hblank, (hr.count_le _).trans hpoll⟩

theorem queueInOrder_nil : QueueInOrder [] := ⟨.nil, by decide, by decide⟩

theorem queueInOrder_blank : QueueInOrder [.blank] := ⟨List.pairwise_singleton _ _, by decide, by decide⟩

/-- A message stands behind its class and before the next (R130). -/
theorem pairwise_enqueue {m : Message} {q : List Message} (h : q.Pairwise fun a b => a.cls ≤ b.cls) :
    (enqueue m q).Pairwise fun a b => a.cls ≤ b.cls := by
  induction q with
  | nil => exact List.pairwise_singleton _ _
  | cons x t ih =>
    obtain ⟨hx, ht⟩ := List.pairwise_cons.1 h
    unfold enqueue
    split
    · next hlt =>
      refine List.pairwise_cons.2 ⟨fun y hy => ?_, h⟩
      rcases List.mem_cons.1 hy with rfl | hy
      · exact hlt.le
      · exact hlt.le.trans (hx y hy)
    · next hge =>
      refine List.pairwise_cons.2 ⟨fun y hy => ?_, ih ht⟩
      rcases mem_enqueue.1 hy with rfl | hy
      · exact Nat.not_lt.1 hge
      · exact hx y hy

/-- A queue stays in order when it gains a message that is no BLANK, and a POLL only where none waits. -/
theorem QueueInOrder.enqueue {q : List Message} {m : Message} (h : QueueInOrder q) (hblank : m ≠ .blank)
    (hpoll : m = .poll → .poll ∉ q) : QueueInOrder (enqueue m q) := by
  obtain ⟨horder, hb, hp⟩ := h
  refine ⟨pairwise_enqueue horder, ?_, ?_⟩
  · rw [(enqueue_perm m q).count_eq, List.count_cons_of_ne hblank]
    exact hb
  · rw [(enqueue_perm m q).count_eq]
    by_cases hm : m = .poll
    · rw [hm, List.count_cons_self, List.count_eq_zero_of_not_mem (hpoll hm)]
    · rwa [List.count_cons_of_ne hm]

/-- The LEVEL on the line, while its claim stands (R110, R126). -/
def Line.liveLevels : Line → List Message
  | .message m => if m.claim && m.msg.isLevel then [m.msg] else []
  | _ => []

theorem Link.liveLevels_eq (l : Link) : l.liveLevels = l.line.liveLevels ++ l.queue.filter Message.isLevel := by
  unfold Link.liveLevels
  cases l.line <;> rfl

/-- A queue gains no LEVEL by another message. -/
theorem filter_isLevel_enqueue {m : Message} (h : m.isLevel = false) (q : List Message) :
    (enqueue m q).filter Message.isLevel = q.filter Message.isLevel := by
  rw [enqueue_eq, List.filter_append, List.filter_cons_of_neg (by simp [h]), ← List.filter_append,
    List.takeWhile_append_dropWhile]

/-- No LEVEL awaits a resend (R127). -/
def Link.resendsNoLevel (l : Link) : Prop := ∀ m, l.resend = some m → m.msg.isLevel = false

theorem Link.resendsNoLevel_of_none {l : Link} (h : l.resend = none) : l.resendsNoLevel := by
  simp [Link.resendsNoLevel, h]

/-! ### Moves of the link -/

/-- What a command may do to the link: the queue stays in order, only a busy line has seen the mode setting change, no
LEVEL is put up for a resend, and, but where the command `offers` a LEVEL of a round, no LEVEL is live that was not. -/
structure Link.Moves (offers : Bool) (l l' : Link) : Prop where
  order : QueueInOrder l.queue → QueueInOrder l'.queue
  pulse : (l.line = .idle → l.modeMoved = false) → l'.line = .idle → l'.modeMoved = false
  resend : l.resendsNoLevel → l'.resendsNoLevel
  live : offers = false → l.resendsNoLevel → l'.liveLevels.Sublist l.liveLevels

namespace Link.Moves

variable {offers : Bool} {l l' : Link}

theorem refl (l : Link) : Link.Moves offers l l := ⟨id, id, id, fun _ _ => .refl _⟩

theorem trans {l'' : Link} (h : Link.Moves offers l l') (h' : Link.Moves offers l' l'') : Link.Moves offers l l'' where
  order := h'.order ∘ h.order
  pulse := h'.pulse ∘ h.pulse
  resend := h'.resend ∘ h.resend
  live ho hr := (h'.live ho (h.resend hr)).trans (h.live ho hr)

/-- The queue loses messages, and so does the line, which stays busy or forgets that the mode setting moved. -/
theorem shrink (hqueue : l'.queue.Sublist l.queue) (hline : l'.line.liveLevels.Sublist l.line.liveLevels)
    (hpulse : l'.line = .idle → l'.modeMoved = false ∨ l.line = .idle ∧ l'.modeMoved = l.modeMoved)
    (hresend : l.resendsNoLevel → l'.resendsNoLevel) : Link.Moves offers l l' where
  order h := h.sublist hqueue
  pulse h hidle := (hpulse hidle).elim id fun ⟨hl, hm⟩ => hm.trans (h hl)
  resend := hresend
  live _ _ := by
    rw [l'.liveLevels_eq, l.liveLevels_eq]
    exact hline.append (hqueue.filter _)

/-- Queue, line, resend and mode mark stand; settings, timers and the idle count may change. -/
theorem of_eq (hqueue : l'.queue = l.queue) (hline : l'.line = l.line) (hresend : l'.resend = l.resend)
    (hmoved : l'.modeMoved = l.modeMoved) : Link.Moves offers l l' :=
  shrink (hqueue ▸ .refl _) (hline ▸ .refl _) (fun h => .inr ⟨hline ▸ h, hmoved⟩)
    (by unfold Link.resendsNoLevel; rw [hresend]; exact id)

/-- The queue loses messages. -/
theorem drop {q : List Message} (h : q.Sublist l.queue) : Link.Moves offers l { l with queue := q } :=
  shrink h (.refl _) (fun hl => .inr ⟨hl, rfl⟩) id

/-- A message is queued that is no BLANK, a POLL only where none waits, and a LEVEL only where one is offered. -/
theorem send {m : Message} (hlevel : m.isLevel = true → offers = true) (hblank : m ≠ .blank)
    (hpoll : m = .poll → .poll ∉ l.queue) : Link.Moves offers l (l.send m) where
  order h := h.enqueue hblank hpoll
  pulse := id
  resend := id
  live ho _ := by
    have hm : m.isLevel = false := by
      by_contra h
      simp [hlevel (by simpa using h)] at ho
    rw [(l.send m).liveLevels_eq, l.liveLevels_eq, Link.send_queue, filter_isLevel_enqueue hm]
    exact .refl _

/-- LATCHes are queued. -/
theorem sendAll {ms : List Message} (h : ∀ m ∈ ms, ∃ tag band, m = .latch tag band) :
    Link.Moves offers l (l.sendAll ms) := by
  induction ms generalizing l with
  | nil => exact refl l
  | cons m t ih =>
    obtain ⟨tag, band, rfl⟩ := h m List.mem_cons_self
    have hlatch : Link.Moves offers l (l.send (.latch tag band)) := send nofun nofun nofun
    exact hlatch.trans (ih fun x hx => h x (List.mem_cons_of_mem _ hx))

/-- A message or an arbitration ends (R120, R121, R133). -/
theorem finish (l : Link) (wide : Bool) : Link.Moves offers l (l.finish wide) :=
  shrink (.refl _) (List.nil_sublist _) (fun _ => .inl rfl) id

/-- A message or an arbitration begins; what leaves the queue is before it, or is the message. -/
theorem busy (hqueue : l'.queue.Sublist l.queue) (hline : l'.line ≠ .idle)
    (hresend : l.resendsNoLevel → l'.resendsNoLevel)
    (hlive : l.resendsNoLevel → l'.liveLevels.Sublist l.liveLevels) : Link.Moves offers l l' where
  order h := h.sublist hqueue
  pulse _ h := absurd h hline
  resend := hresend
  live _ := hlive

end Link.Moves

/-! ### The operations of the link -/

section
variable {offers : Bool}

theorem Link.withdraw_line_idle_iff {l : Link} {which : Message → Bool} :
    (l.withdraw which).line = .idle ↔ l.line = .idle := by
  cases h : l.line <;> simp [Link.withdraw, h]

/-- A withdrawn claim makes no LEVEL live (R126). -/
theorem Link.withdraw_liveLevels (l : Link) (which : Message → Bool) :
    (l.withdraw which).line.liveLevels.Sublist l.line.liveLevels := by
  cases h : l.line with
  | message m =>
    cases hc : m.claim <;> cases hm : m.msg.isLevel <;> cases hw : which m.msg <;>
      simp [Link.withdraw, Line.liveLevels, h, hc, hm, hw]
  | _ => simp [Link.withdraw, Line.liveLevels, h]

/-- With the claim of every LEVEL withdrawn, none on the line is live. -/
theorem Link.withdraw_level {l : Link} {which : Message → Bool} (h : ∀ m : Message, m.isLevel = true → which m = true) :
    (l.withdraw which).line.liveLevels = [] := by
  cases hl : l.line with
  | message m =>
    cases hm : m.msg.isLevel with
    | false => simp [Link.withdraw, Line.liveLevels, hl, hm]
    | true => simp [Link.withdraw, Line.liveLevels, hl, hm, h _ hm]
  | _ => simp [Link.withdraw, Line.liveLevels, hl]

theorem Link.moves_dropLevel (l : Link) : Link.Moves offers l l.dropLevel :=
  .shrink List.filter_sublist (l.withdraw_liveLevels _) (fun h => .inr ⟨Link.withdraw_line_idle_iff.1 h, rfl⟩) id

theorem Link.quench_line (l : Link) : l.quench.line = (l.withdraw fun m => m ≠ .blank).line := rfl

theorem Link.softReset_line (l : Link) : l.softReset.line = (l.withdraw fun _ => true).line := rfl

theorem Link.liveLevels_quench (l : Link) : l.quench.liveLevels = [] := by
  have hnotBlank (m : Message) (hm : m.isLevel = true) : decide (m ≠ .blank) = true := by
    cases m with
    | level => rfl
    | _ => cases hm
  rw [Link.liveLevels_eq, l.quench_line, Link.withdraw_level hnotBlank]
  rfl

theorem Link.liveLevels_softReset (l : Link) : l.softReset.liveLevels = [] := by
  rw [Link.liveLevels_eq, l.softReset_line, Link.withdraw_level fun _ _ => rfl]
  rfl

theorem Link.resendsNoLevel_quench (l : Link) : l.quench.resendsNoLevel := by
  cases hr : l.resend with
  | none => exact Link.resendsNoLevel_of_none (Link.quench_resend_none hr)
  | some r =>
    unfold Link.resendsNoLevel
    rw [Link.quench_resend_some hr]
    intro m hm
    split at hm
    · next hblank =>
      cases hm
      rw [hblank]
      rfl
    · cases hm

/-- A KILL or a STOP leaves the one BLANK and no LEVEL (R132). -/
theorem Link.moves_quench (l : Link) : Link.Moves offers l l.quench where
  order _ := queueInOrder_blank
  pulse h hidle := h (Link.withdraw_line_idle_iff.1 (l.quench_line ▸ hidle))
  resend _ := l.resendsNoLevel_quench
  live _ _ := by rw [l.liveLevels_quench]; exact List.nil_sublist _

theorem Link.moves_softReset (l : Link) : Link.Moves offers l l.softReset where
  order _ := queueInOrder_blank
  pulse h hidle := h (Link.withdraw_line_idle_iff.1 (l.softReset_line ▸ hidle))
  resend _ := Link.resendsNoLevel_of_none rfl
  live _ _ := by rw [l.liveLevels_softReset]; exact List.nil_sublist _

/-- What a READ in flight concerns does not bear on the LEVELs (R144). -/
theorem Link.moves_entryGone (l : Link) (which : Nat → Bool) : Link.Moves offers l (l.entryGone which) := by
  refine .shrink (.refl _) ?_ (fun h => .inr ⟨?_, rfl⟩) id
  · cases hl : l.line with
    | message m =>
      obtain ⟨msg, claim, resends, kept⟩ := m
      cases msg <;> simp [Link.entryGone, Line.liveLevels, Message.isLevel, hl]
    | _ => simp [Link.entryGone, Line.liveLevels, hl]
  · cases hl : l.line with
    | message m =>
      obtain ⟨msg, claim, resends, kept⟩ := m
      cases msg <;> simp [Link.entryGone, hl] at h
    | _ => simp [Link.entryGone, hl] at h ⊢

/-- SET LINK marks a busy line alone, and removes the POLLs where polling ends (R133, R135). -/
theorem Link.moves_configure (l : Link) (k : LinkSetting) (op : OpState) (now : Nat) :
    Link.Moves offers l (l.configure k op now) := by
  refine .shrink ?_ (.refl _) (fun h => .inr ⟨h, ?_⟩) id
  · unfold Link.configure
    dsimp only
    split
    · exact List.filter_sublist
    · exact .refl _
  · have hidle : l.line = .idle := h
    simp [Link.configure, hidle]

theorem Link.moves_sendPoll (l : Link) : Link.Moves offers l l.sendPoll := by
  unfold Link.sendPoll
  split
  · exact .refl l
  · next hnone => exact .send nofun nofun fun _ => by simpa using hnone

theorem Link.moves_attentionRequest (l : Link) (op : OpState) (d : DriverTable) (addr : Nat) :
    Link.Moves offers l (l.attentionRequest op d addr) := by
  unfold Link.attentionRequest
  split
  · split
    · exact .send nofun nofun nofun
    · exact .refl l
  · exact .refl l

theorem Link.moves_attentionRequests (l : Link) (op : OpState) (d : DriverTable) (addrs : List Nat) :
    Link.Moves offers l (Link.attentionRequests op d l addrs) := by
  induction addrs generalizing l with
  | nil => exact .refl l
  | cons a rest ih => exact (l.moves_attentionRequest op d a).trans (ih _)

theorem Link.resendNow_some {l : Link} {op : OpState} {m : InFlight} (h : l.resendNow op = some m) :
    l.resend = some m := by
  unfold Link.resendNow at h
  split at h
  · next hr =>
    split at h
    · cases h
    · rw [hr, h]
  · cases h

/-- A choice takes a LEVEL from the queue to the line, or removes it; a resend is none (R127, R131). -/
theorem Link.moves_choose (l : Link) (op : OpState) (d : DriverTable) : Link.Moves offers l (l.choose op d) := by
  unfold Link.choose
  split
  · next m hm =>
    refine .busy (.refl _) nofun (fun _ => Link.resendsNoLevel_of_none rfl) fun hr => ?_
    have hlevel : m.msg.isLevel = false := hr m (Link.resendNow_some hm)
    have hline : (Line.message m).liveLevels = [] := by simp [Line.liveLevels, hlevel]
    rw [Link.liveLevels_eq, Link.liveLevels_eq, Link.begin_line, hline]
    exact List.sublist_append_right _ _
  · have hrest := List.dropWhile_sublist (removable op d) (l := l.queue)
    split
    · exact .shrink (List.nil_sublist _) (.refl _) (fun h => .inr ⟨h, rfl⟩) fun _ => Link.resendsNoLevel_of_none rfl
    · next m rest hq =>
      rw [hq] at hrest
      refine .busy ((List.sublist_cons_self m rest).trans hrest) nofun (fun _ => Link.resendsNoLevel_of_none rfl)
        fun _ => ?_
      have hlive : (Line.message ⟨m, true, 0, true⟩).liveLevels ++ rest.filter Message.isLevel
          = (m :: rest).filter Message.isLevel := by
        cases hm : m.isLevel <;> simp [Line.liveLevels, hm]
      rw [Link.liveLevels_eq, Link.liveLevels_eq, Link.begin_line, Link.begin_queue]
      exact hlive ▸ ((hrest.filter _).trans (List.sublist_append_right _ _))

end

end Sys2Proof.Machine

/-! ### The operations of the whole device on the link -/

namespace Sys2Proof.Machine

open Sys2Proof

/-- The schedule's messages are LATCHes (R90). -/
theorem Schedule.mem_latches {c : Schedule} {upto : Nat} {m : Message} (h : m ∈ c.latches upto) :
    ∃ tag band, m = .latch tag band := by
  obtain ⟨band, _, rfl⟩ := List.mem_map.1 h
  exact ⟨_, _, rfl⟩

namespace Link.Moves

variable {offers : Bool} {l : Link} {s : State}

theorem mapShipped (h : Link.Moves offers l s.link) : Link.Moves offers l s.mapShipped.link := by
  unfold State.mapShipped
  split
  · dsimp only
    split
    · exact h
    · split
      · split
        · exact h.trans (.send nofun nofun nofun)
        · exact h
      · exact h
  · exact h

/-- A round that goes on may offer a LEVEL (R110). -/
theorem continueRound (h : Link.Moves true l s.link) : Link.Moves true l s.continueRound.link := by
  unfold State.continueRound
  split
  · split
    · exact h.trans (.send (fun _ => rfl) nofun nofun)
    · exact h
  · exact h.mapShipped
  · exact h

theorem beginRound (h : Link.Moves true l s.link) : Link.Moves true l s.beginRound.link := by
  unfold State.beginRound
  split
  · exact continueRound h
  · exact h

theorem bandEnded (h : Link.Moves true l s.link) : Link.Moves true l s.bandEnded.link := by
  unfold State.bandEnded
  split
  · split
    · exact h
    · exact beginRound h
  · exact h

theorem solveEnd (h : Link.Moves true l s.link) : Link.Moves true l s.solveEnd.link := by
  cases hv : s.solver.voided with
  | true =>
    rw [State.solveEnd_voided_eq hv]
    exact h
  | false =>
    rw [State.solveEnd_kept_eq hv]
    exact beginRound h

theorem lossSolve (h : Link.Moves offers l s.link) : Link.Moves offers l s.lossSolve.link := by
  rcases s.lossSolve_cases with hs | ⟨_, _, hs⟩
  · rwa [hs]
  · rw [hs]
    split
    · exact h.trans (Link.moves_dropLevel _)
    · exact h

theorem flush (h : Link.Moves offers l s.link) : Link.Moves offers l s.flush.link := by
  unfold State.flush
  split
  · split
    · exact h.trans (.sendAll fun m => Schedule.mem_latches)
    · exact h
  · exact h

theorem frameStart (h : Link.Moves offers l s.link) : Link.Moves offers l s.frameStart.link := by
  rcases s.frameStart_cases with ⟨_, hs⟩ | ⟨_, hs⟩
  · rw [hs]
    exact h.flush.trans (.sendAll fun m => Schedule.mem_latches)
  · rw [hs]
    exact h.flush

theorem internalStart (h : Link.Moves offers l s.link) (next : Nat) :
    Link.Moves offers l (s.internalStart next).link := by
  refine .lossSolve (.frameStart ?_)
  exact h

theorem lossExpiry (h : Link.Moves offers l s.link) : Link.Moves offers l s.lossExpiry.link := by
  refine .internalStart ?_ _
  exact h

theorem fsyncEdge (h : Link.Moves offers l s.link) : Link.Moves offers l s.fsyncEdge.link := by
  unfold State.fsyncEdge
  split
  · split
    · split
      · exact h
      · exact .frameStart h
    · exact .frameStart h
  · exact h

theorem replaceWork (h : Link.Moves offers l s.link) : Link.Moves offers l s.replaceWork.link := by
  unfold State.replaceWork
  split
  · split
    · exact h.trans (Link.moves_dropLevel _)
    · exact h
  · exact h

theorem discoverFrom (h : Link.Moves offers l s.link) (first : Nat) :
    Link.Moves offers l (s.discoverFrom first).link := by
  unfold State.discoverFrom State.discoveryEnd
  split
  · exact h.trans (.send nofun nofun nofun)
  · split
    · exact h.trans (.of_eq rfl rfl rfl rfl)
    · exact h.trans (.drop List.filter_sublist)

theorem enterDiscovery (h : Link.Moves offers l s.link) : Link.Moves offers l s.enterDiscovery.link := by
  refine .discoverFrom ?_ 0
  exact h

theorem discoveryNext (h : Link.Moves offers l s.link) : Link.Moves offers l s.discoveryNext.link := by
  unfold State.discoveryNext
  split
  · exact h.discoverFrom _
  · exact h

theorem readFollows (h : Link.Moves offers l s.link) (i : Nat) (asker : ReadAsker) (claim : Bool) :
    Link.Moves offers l (s.readFollows i asker claim).link := by
  cases asker with
  | discovery =>
    cases claim
    · exact h
    · exact h.discoveryNext
  | probe => cases claim <;> exact h
  | attention | rotation => exact h

end Link.Moves

/-! ### The commands on the link -/

/-- The commands that may offer a LEVEL of a round (R109, R110). -/
def offersLevel : Instr → Bool
  | .pass2Zone | .levelEnding _ _ | .latchEnding _ _ => true
  | _ => false

/-- A broadcast put up for its resend (R127). -/
theorem Link.Moves.resendLater {offers : Bool} (l : Link) (wide : Bool) {m : InFlight} (h : m.msg.isLevel = false) :
    Link.Moves offers l { l.finish wide with resend := some m } :=
  .shrink (.refl _) (List.nil_sublist _) (fun _ => .inl rfl) fun _ x hx => by
    cases hx
    exact h

/-- A READ's ending taken or dropped leaves the link (R144). -/
theorem State.handRead_link (s : State) (i : Nat) (kept : Bool) (p : Option ReadReport) :
    (s.handRead i kept p).link = s.link := by simp

/-- The device's own frame starts and SET LOSS (R80, R82, R83). -/
theorem exec_ownFrame_moves {c : Instr} (hc : StartsOwnFrame c) {s t : State} (h : exec c s = .next t) :
    Link.Moves (offersLevel c) s.link t.link := by
  rcases hc with rfl | rfl | ⟨params, rfl⟩
  · cases h
    split
    · refine .lossExpiry ?_
      exact .refl _
    · exact .refl _
  · cases h
    split
    · refine .internalStart ?_ _
      exact .refl _
    · exact .refl _
  · cases h
    split
    · dsimp only
      split
      · split
        · refine .lossExpiry ?_
          exact .refl _
        · exact .refl _
      · exact .refl _
    · exact .refl _

/-- What a command does to the link. -/
theorem exec_moves {c : Instr} {s t : State} (h : exec c s = .next t) :
    Link.Moves (offersLevel c) s.link t.link := by
  cases c with
  | lossTimerExpiry => exact exec_ownFrame_moves (.inl rfl) h
  | internalFrameStart => exact exec_ownFrame_moves (.inr (.inl rfl)) h
  | setLoss p => exact exec_ownFrame_moves (.inr (.inr ⟨p, rfl⟩)) h
  | closeFrame record cut =>
    rcases exec_closeFrame_cases h with ⟨_, rfl⟩ | ⟨_, rfl⟩ | ⟨_, _, _, r, _, rfl⟩
    · exact .refl _
    · exact .refl _
    · exact .replaceWork (.refl _)
  | fsyncFallingEdge time held high =>
    cases h
    split
    · split
      · exact .fsyncEdge (.refl _)
      · exact .refl _
    · exact .refl _
  | setGrid p =>
    rcases exec_setGrid_cases h with ⟨_, rfl⟩ | ⟨_, _, _, _, rfl⟩
    · exact .refl _
    · exact s.link.moves_entryGone _
  | loadDriver p =>
    cases h
    split
    · split
      · exact s.link.moves_entryGone _
      · split
        · exact s.link.moves_entryGone _
        · exact .refl _
      · exact .refl _
    · exact .refl _
  | setLink p =>
    cases h
    split
    · split
      · exact s.link.moves_configure _ _ _
      · exact .refl _
    · exact .refl _
  | start p =>
    cases h
    split
    · exact .enterDiscovery (.refl _)
    · exact .refl _
  | rearm p =>
    cases h
    split
    · dsimp only
      split
      · exact .refl _
      · exact .enterDiscovery (.refl _)
    · exact .refl _
  | stop p =>
    cases h
    split
    · exact .refl _
    · exact .refl _
    · exact s.link.moves_quench
    · exact s.link.moves_quench
  | killFallingEdge held =>
    cases h
    split
    · exact s.link.moves_quench
    · exact .refl _
  | softReset p =>
    cases h
    split
    · exact s.link.moves_softReset
    · exact s.link.moves_softReset.trans (Link.moves_quench _)
  | powerOnReset a b k f =>
    cases h
    exact ⟨fun _ => queueInOrder_nil, fun _ _ => rfl, fun _ => Link.resendsNoLevel_of_none rfl,
      fun _ _ => List.nil_sublist _⟩
  | probe p =>
    cases h
    split
    · split
      · exact .refl _
      · split
        · split
          · split
            · exact .refl _
            · exact .send nofun nofun nofun
          · exact .refl _
        · exact .refl _
    · exact .refl _
  | resetGapEnd =>
    cases h
    split
    · exact .of_eq rfl rfl rfl rfl
    · exact .refl _
  | pollTimerExpiry =>
    cases h
    split
    · exact s.link.moves_sendPoll.trans (.of_eq rfl rfl rfl rfl)
    · exact .refl _
  | latchDue =>
    cases h
    split
    · split
      · exact .send nofun nofun nofun
      · exact .refl _
    · exact .refl _
  | pass2Zone =>
    cases h
    split
    · split
      · exact .solveEnd (.refl _)
      · exact .refl _
    · exact .refl _
  | transmitChoice =>
    cases h
    split
    · exact (s.link.moves_choose _ _).trans (.of_eq rfl rfl rfl rfl)
    · exact .refl _
  | attentionStart =>
    cases h
    split
    · exact .busy (.refl _) nofun id fun _ => by
        rw [Link.liveLevels_eq, Link.liveLevels_eq]
        exact List.sublist_append_right _ _
    · exact .refl _
  | attentionWindow =>
    cases h
    split
    · exact .of_eq rfl rfl rfl rfl
    · exact .refl _
  | arbitrationEnd sampled wide =>
    cases h
    split
    · have hdone : Link.Moves (offersLevel (.arbitrationEnd sampled wide)) s.link
          { s.link.finish wide with attentionHold := true } :=
        (Link.Moves.finish _ wide).trans (.of_eq rfl rfl rfl rfl)
      dsimp only
      split
      · exact hdone.trans (Link.moves_attentionRequest _ _ _ _)
      · exact hdone
    · exact .refl _
  | levelEnding status wide =>
    cases h
    split
    · split
      · exact .continueRound (.finish _ wide)
      · exact .finish _ wide
    · exact .refl _
  | latchEnding error wide =>
    cases h
    split
    · dsimp only
      split
      · exact .resendLater _ wide rfl
      · split
        · exact .bandEnded (.finish _ wide)
        · exact .finish _ wide
    · exact .refl _
  | blankEnding error wide =>
    cases h
    split
    · dsimp only
      split
      · exact .resendLater _ wide rfl
      · exact .finish _ wide
    · exact .refl _
  | discoveryConfigEnding status wide =>
    cases h
    split
    · split
      · split
        · exact (Link.Moves.finish _ wide).trans (.send nofun nofun nofun)
        · exact .discoveryNext (.finish _ wide)
      · exact .finish _ wide
    · exact .refl _
  | probeConfigEnding status wide =>
    cases h
    split
    · split
      · split
        · exact (Link.Moves.finish _ wide).trans (.send nofun nofun nofun)
        · exact .finish _ wide
      · exact .finish _ wide
    · exact .refl _
  | readEnding status response wide =>
    cases h
    split
    · refine .readFollows ?_ _ _ _
      rw [State.handRead_link]
      exact .finish _ wide
    · exact .refl _
  | pollEnding slots wide =>
    cases h
    split
    · exact (Link.Moves.finish _ wide).trans (Link.moves_attentionRequests _ _ _ _)
    · exact .refl _
  | pictureGainValue w =>
    rcases exec_pictureGainValue_cases h with rfl | ⟨_, _, _, _, ⟨_, rfl⟩ | ⟨_, rfl⟩⟩ <;> exact .refl _
  | ackAlert p =>
    cases h
    split
    · exact .refl _
    · dsimp only
      split <;> exact .refl _
  | _ =>
    cases h
    (repeat' split) <;> exact .refl _

/-- The queue stays in class order, with one BLANK and one POLL at most (R130, R131, R135). -/
theorem exec_keeps_queueInv {c : Instr} {s t : State} (h : exec c s = .next t) (hi : QueueInv s) : QueueInv t :=
  queueInv_iff.2 ((exec_moves h).order (queueInv_iff.1 hi))

/-- An idle line has seen no mode setting change (R133, log entry 11). -/
theorem exec_keeps_stopPulseInv {c : Instr} {s t : State} (h : exec c s = .next t) (hi : StopPulseInv s) :
    StopPulseInv t := (exec_moves h).pulse hi

end Sys2Proof.Machine

/-! ### One LEVEL at a time (R97, R109, R110, R113, R127) -/

namespace Sys2Proof.Machine

open Sys2Proof

theorem Link.isLevel_of_mem_liveLevels {l : Link} {m : Message} (h : m ∈ l.liveLevels) : m.isLevel = true := by
  rw [l.liveLevels_eq, List.mem_append] at h
  rcases h with h | h
  · cases hl : l.line with
    | message x =>
      rw [hl] at h
      cases hx : x.claim && x.msg.isLevel with
      | false => simp [Line.liveLevels, hx] at h
      | true =>
        obtain rfl : m = x.msg := by simpa [Line.liveLevels, hx] using h
        simpa using (Bool.and_eq_true_iff.1 hx).2
    | _ => simp [Line.liveLevels, hl] at h
  · exact (List.mem_filter.1 h).2

/-- A LEVEL queued where none is live is the one that is. -/
theorem Link.liveLevels_send {l : Link} {m : Message} (hm : m.isLevel = true) (h : l.liveLevels = []) :
    (l.send m).liveLevels = [m] := by
  obtain ⟨hline, hqueue⟩ := List.append_eq_nil_iff.1 (l.liveLevels_eq ▸ h)
  have hperm := (enqueue_perm m l.queue).filter Message.isLevel
  rw [List.filter_cons_of_pos hm, hqueue] at hperm
  rw [Link.liveLevels_eq, Link.send_line, hline, Link.send_queue, List.perm_singleton.1 hperm]
  rfl

namespace ShippingInv

variable {s t : State}

/-- A CLOSED gate finds no round (R97). -/
theorem noRound (hi : ShippingInv s) (h : s.timing.gateOpen = false) : s.drivers.round = none :=
  let ⟨_, _, hgate, _⟩ := hi
  hgate h

/-- No LEVEL awaits a resend (R127). -/
theorem noResend (hi : ShippingInv s) : s.link.resendsNoLevel :=
  let ⟨_, _, _, hresend⟩ := hi
  hresend

/-- A live LEVEL is of the head of a SOLVED map's round, with that map's tag (R110). -/
theorem level (hi : ShippingInv s) {i addr : Nat} {tag : Tag} {codes : List Nat}
    (h : .level i addr tag codes ∈ s.link.liveLevels) :
    s.banks.pend = .solved ∧ tag = s.banks.pendingBank.tag ∧ ∃ rest, s.drivers.round = some (i :: rest) :=
  let ⟨_, hlevel, _, _⟩ := hi
  hlevel i addr tag codes h

/-- Without a LEVEL there is no more to ask than that a CLOSED gate finds no round. -/
theorem of_none (hlive : t.link.liveLevels = []) (hgate : t.timing.gateOpen = false → t.drivers.round = none)
    (hresend : t.link.resendsNoLevel) : ShippingInv t :=
  ⟨by simp [hlive], by simp [hlive], hgate, hresend⟩

/-- Live LEVELs are those of a SOLVED map whose round goes on. -/
theorem live_nil (hi : ShippingInv s) (h : s.banks.pend ≠ .solved ∨ s.drivers.round = none) :
    s.link.liveLevels = [] := by
  refine List.eq_nil_iff_forall_not_mem.2 fun m hm => ?_
  cases m with
  | level i addr tag codes =>
    obtain ⟨hp, _, rest, hr⟩ := hi.level hm
    rcases h with h | h
    · exact h hp
    · simp [h] at hr
  | _ => simpa [Message.isLevel] using Link.isLevel_of_mem_liveLevels hm

/-- With the gate CLOSED no LEVEL is live (R97). -/
theorem live_nil_of_closed (hi : ShippingInv s) (hg : s.timing.gateOpen = false) : s.link.liveLevels = [] :=
  hi.live_nil (.inr (hi.noRound hg))

/-- A move that offers no LEVEL, on a device whose map, tag and round's head stand. -/
theorem moves (hi : ShippingInv s) (hm : Link.Moves false s.link t.link) (hpend : t.banks.pend = s.banks.pend)
    (htag : t.banks.pendingBank.tag = s.banks.pendingBank.tag)
    (hround : ∀ i rest, s.drivers.round = some (i :: rest) → ∃ rest', t.drivers.round = some (i :: rest'))
    (hgate : t.timing.gateOpen = false → t.drivers.round = none) : ShippingInv t := by
  have hlive := hm.live rfl hi.noResend
  refine ⟨hlive.length_le.trans hi.1, fun i addr tag codes hmem => ?_, hgate, hm.resend hi.noResend⟩
  obtain ⟨hp, ht, rest, hr⟩ := hi.level (hlive.subset hmem)
  exact ⟨hpend.trans hp, ht.trans htag.symm, hround i rest hr⟩

/-- The same with the whole round as it stood, and a gate that is not CLOSED by it. -/
theorem keeps (hi : ShippingInv s) (hm : Link.Moves false s.link t.link) (hpend : t.banks.pend = s.banks.pend)
    (htag : t.banks.pendingBank.tag = s.banks.pendingBank.tag) (hround : t.drivers.round = s.drivers.round)
    (hgate : t.timing.gateOpen = false → s.timing.gateOpen = false) : ShippingInv t :=
  hi.moves hm hpend htag (fun _ rest hr => ⟨rest, hround.trans hr⟩) fun hg => hround.trans (hi.noRound (hgate hg))

/-- A move that offers no LEVEL, on a device whose map is not SOLVED. -/
theorem idle (hi : ShippingInv s) (hm : Link.Moves false s.link t.link) (hpend : s.banks.pend ≠ .solved)
    (hgate : t.timing.gateOpen = false → t.drivers.round = none) : ShippingInv t := by
  have hlive := hm.live rfl hi.noResend
  rw [hi.live_nil (.inl hpend)] at hlive
  exact of_none (List.sublist_nil.1 hlive) hgate (hm.resend hi.noResend)

/-! Frame starts -/

theorem frameStart (hi : ShippingInv s) : ShippingInv s.frameStart := by
  have hm : Link.Moves false s.link s.frameStart.link := .frameStart (.refl _)
  rcases s.frameStart_cases with ⟨hp, h⟩ | ⟨_, h⟩
  · rw [h] at hm ⊢
    exact hi.idle hm (by simp [hp]) fun _ => rfl
  · rw [h] at hm ⊢
    exact hi.keeps hm (by simp) (by simp) (by simp) (by simp)

/-- A solve that supersedes a waiting map withdraws its LEVEL (R43, R45, R113). -/
theorem supersede (hi : ShippingInv s) : ShippingInv s.supersede :=
  of_none s.link.liveLevels_dropLevel (fun _ => rfl) hi.noResend

/-- A solve starts where no LEVEL is live. -/
theorem startSolve (hi : ShippingInv s) (hlive : s.link.liveLevels = []) (kind : SolveKind) (params : SolveParams)
    (epoch : Bool) : ShippingInv (s.startSolve kind params epoch) :=
  of_none hlive hi.noRound hi.noResend

theorem lossSolve (hi : ShippingInv s) : ShippingInv s.lossSolve := by
  rcases s.lossSolve_cases with h | ⟨_, _, h⟩
  · rwa [h]
  · rw [h]
    split
    · exact hi.supersede.startSolve s.link.liveLevels_dropLevel _ _ _
    · next hwait =>
      have hp : s.banks.pend ≠ .solved := fun hp => hwait (s.banks.waiting_iff.2 (.inl hp))
      exact hi.startSolve (hi.live_nil (.inl hp)) _ _ _

theorem internalStart (hi : ShippingInv s) (next : Nat) : ShippingInv (s.internalStart next) := by
  refine .lossSolve (.frameStart ?_)
  exact hi

theorem lossExpiry (hi : ShippingInv s) : ShippingInv s.lossExpiry := by
  refine .internalStart ?_ _
  exact hi

theorem fsyncEdge (hi : ShippingInv s) : ShippingInv s.fsyncEdge := by
  unfold State.fsyncEdge
  split
  · split
    · split
      · exact hi
      · exact .frameStart hi
    · exact .frameStart hi
  · exact hi

/-! Discovery -/

theorem discoverFrom (hi : ShippingInv s) (first : Nat) : ShippingInv (s.discoverFrom first) := by
  refine hi.keeps (.discoverFrom (.refl _) first) (by simp) (by simp) (by simp) fun hg => ?_
  rcases s.discoverFrom_gate first with h | ⟨h, _⟩
  · rwa [h] at hg
  · simp [h] at hg

theorem discoveryNext (hi : ShippingInv s) : ShippingInv s.discoveryNext := by
  unfold State.discoveryNext
  split
  · exact hi.discoverFrom _
  · exact hi

theorem readFollows (hi : ShippingInv s) (i : Nat) (asker : ReadAsker) (claim : Bool) :
    ShippingInv (s.readFollows i asker claim) := by
  cases asker with
  | discovery =>
    cases claim
    · exact hi
    · exact hi.discoveryNext
  | probe => cases claim <;> exact hi
  | attention | rotation => exact hi

/-- Entry to DISCOVERY ends the round, where no map is SOLVED (R105). -/
theorem enterDiscovery (hi : ShippingInv s) (hpend : s.banks.pend ≠ .solved) : ShippingInv s.enterDiscovery :=
  hi.idle (.enterDiscovery (.refl _)) hpend fun _ => by simp [State.enterDiscovery]

/-! The round -/

/-- A round that goes on with no LEVEL live offers that of its head (R109, R110). -/
theorem continueRound (hlive : s.link.liveLevels = [])
    (hpend : s.drivers.round = none ∨ s.banks.pend = .solved ∧ s.timing.gateOpen = true)
    (hresend : s.link.resendsNoLevel) : ShippingInv s.continueRound := by
  have hbase : ShippingInv s :=
    of_none hlive (fun hg => hpend.elim id fun ⟨_, h⟩ => by simp [h] at hg) hresend
  unfold State.continueRound
  split
  · next i rest hr =>
    obtain ⟨hp, hg⟩ := hpend.resolve_left (by simp [hr])
    split
    · have hsent := Link.liveLevels_send (m := s.levelFor i ‹_›) rfl hlive
      refine ⟨by simp [hsent], fun j addr tag codes hmem => ?_, fun h => absurd (hg.symm.trans h) nofun, hresend⟩
      rw [hsent, List.mem_singleton, State.levelFor, Message.level.injEq] at hmem
      obtain ⟨rfl, _, rfl, _⟩ := hmem
      exact ⟨hp, rfl, rest, hr⟩
    · exact hbase
  · have hm : Link.Moves false s.link s.mapShipped.link := .mapShipped (.refl _)
    have hsub := hm.live rfl hresend
    rw [hlive] at hsub
    refine of_none (List.sublist_nil.1 hsub) ?_ (hm.resend hresend)
    simpa using hbase.noRound
  · exact hbase

/-- A round begins with no LEVEL live (R109). -/
theorem beginRound (hi : ShippingInv s) (hlive : s.link.liveLevels = []) : ShippingInv s.beginRound := by
  unfold State.beginRound
  split
  · next h =>
    refine continueRound hlive (.inr h) ?_
    exact hi.noResend
  · exact hi

/-- The last band's end finds no LEVEL live, for the gate was CLOSED (R91, R97). -/
theorem bandEnded (hi : ShippingInv s) (hg : GateInv s) : ShippingInv s.bandEnded := by
  unfold State.bandEnded
  split
  · next c hc =>
    split
    · exact hi
    · have hclosed : s.timing.gateOpen = false := hg.1.2 (by simp [hc])
      have hlive := hi.live_nil_of_closed hclosed
      refine beginRound (of_none hlive nofun hi.noResend) ?_
      exact hlive
  · exact hi

/-- The end of a solve finds no LEVEL live, for the map was not SOLVED (R41, R109). -/
theorem solveEnd (hi : ShippingInv s) (hpend : s.banks.pend ≠ .solved) : ShippingInv s.solveEnd := by
  have hlive := hi.live_nil (.inl hpend)
  have hdone (p : PendState) : ShippingInv (s.solveDone p) := of_none hlive hi.noRound hi.noResend
  cases hv : s.solver.voided with
  | true =>
    rw [State.solveEnd_voided_eq hv]
    exact hdone _
  | false =>
    rw [State.solveEnd_kept_eq hv]
    refine (hdone .solved).beginRound ?_
    exact hlive

end ShippingInv

/-- While a solve is in flight the map is not SOLVED (R42, R46, R73). -/
theorem PendingInv.not_solved {s : State} (hi : PendingInv s) (hphase : s.solver.phase ≠ .idle) :
    s.banks.pend ≠ .solved := by
  obtain ⟨hsolving, hvoided⟩ := hi
  cases hv : s.solver.voided with
  | true => simp [(hvoided hv).2]
  | false => simp [hsolving.2 ⟨hphase, hv⟩]

/-- The ending of an entry's LEVEL leaves no round where there was none. -/
theorem DriverTable.levelEnded_round {d : DriverTable} {i : Nat} {x : Ending} (h : d.round = none) :
    (d.levelEnded i x).round = none := by rw [DriverTable.levelEnded_idle h, h]

/-- A recovered entry joins the end of a round's list, so that its head stands (R111). -/
theorem DriverTable.recover_round_head {d : DriverTable} {j : Nat} {rest : List Nat}
    (h : d.round = some (j :: rest)) (i : Nat) (p : PendState) :
    ∃ rest', (d.recover i p).round = some (j :: rest') := by
  unfold DriverTable.recover
  split
  · rw [h]
    dsimp only
    split
    · exact ⟨rest ++ [i], rfl⟩
    · exact ⟨rest, rfl⟩
  · exact ⟨rest, h⟩

/-- A CLOSE FRAME's solve finds no LEVEL live: that of a waiting map is withdrawn, and no other map had one (R43). -/
theorem ShippingInv.replaceWork {s : State} (hi : ShippingInv s) (hp : PendingInv s) :
    ShippingInv s.replaceWork ∧ s.replaceWork.link.liveLevels = [] := by
  by_cases hphase : s.solver.phase = .idle
  · by_cases hwait : s.banks.waiting = true
    · rw [State.replaceWork_waiting hphase (s.banks.waiting_iff.1 hwait)]
      exact ⟨hi.supersede, s.link.liveLevels_dropLevel⟩
    · rw [State.replaceWork, if_pos hphase, if_neg hwait]
      exact ⟨hi, hi.live_nil (.inl fun h => hwait (s.banks.waiting_iff.2 (.inl h)))⟩
  · rw [State.replaceWork_busy hphase]
    exact ⟨hi, hi.live_nil (.inl (hp.not_solved hphase))⟩

/-- The ending of a LEVEL whose claim stands leaves none live (R110). -/
theorem ShippingInv.live_nil_of_ending {s : State} (hi : ShippingInv s) {m : InFlight}
    (hline : s.link.line = .message m) (hclaim : m.claim = true) (hlevel : m.msg.isLevel = true) (wide : Bool) :
    (s.link.finish wide).liveLevels = [] := by
  have hone := hi.1
  rw [Link.liveLevels_eq, hline] at hone
  rw [Link.liveLevels_eq]
  simpa [Line.liveLevels, hclaim, hlevel] using hone

/-- The ending of a LEVEL: its claim withdrawn, it leaves the round alone; or the round goes on (R110, R113). -/
theorem ShippingInv.levelEnding {status : LinkStatus} {wide : Bool} {s t : State}
    (h : exec (.levelEnding status wide) s = .next t) (hi : ShippingInv s) : ShippingInv t := by
  cases h
  split
  · next i addr tag codes claim resends kept hline =>
    split
    · next hclaim =>
      have hmem : .level i addr tag codes ∈ s.link.liveLevels := by
        rw [Link.liveLevels_eq, hline]
        simp [Line.liveLevels, hclaim, Message.isLevel]
      obtain ⟨hp, _, rest, hr⟩ := hi.level hmem
      have hopen : s.timing.gateOpen = true := by
        by_contra hg
        simp [hi.noRound (by simpa using hg)] at hr
      refine ShippingInv.continueRound ?_ (.inr ⟨hp, hopen⟩) hi.noResend
      exact hi.live_nil_of_ending hline hclaim rfl wide
    · exact hi.keeps (.finish _ wide) rfl rfl rfl id
  · exact hi

theorem exec_keeps_shippingInv {c : Instr} {s t : State} (h : exec c s = .next t) (hp : PendingInv s) (hg : GateInv s)
    (ho : OutsideRunInv s) (hi : ShippingInv s) : ShippingInv t := by
  have notSolved (hop : s.sup.op ≠ .run) : s.banks.pend ≠ .solved := by simp [(ho hop).1]
  have ended {u : State} (hlink : u.link = s.link.quench) (hround : u.drivers.round = none) : ShippingInv u :=
    .of_none (hlink ▸ s.link.liveLevels_quench) (fun _ => hround) (hlink ▸ s.link.resendsNoLevel_quench)
  cases c with
  | closeFrame record cut =>
    rcases exec_closeFrame_cases h with ⟨_, rfl⟩ | ⟨_, rfl⟩ | ⟨_, _, _, r, _, rfl⟩
    · exact hi
    · exact hi
    · obtain ⟨hwork, hlive⟩ := hi.replaceWork hp
      exact hwork.startSolve hlive .picture (s.pictureParams r) r.epoch
  | fsyncFallingEdge time held high =>
    cases h
    split
    · split
      · refine .fsyncEdge ?_
        exact hi
      · exact hi
    · exact hi
  | lossTimerExpiry =>
    cases h
    split
    · refine .lossExpiry ?_
      exact hi
    · exact hi
  | internalFrameStart =>
    cases h
    split
    · refine .internalStart ?_ _
      exact hi
    · exact hi
  | setLoss p =>
    cases h
    split
    · dsimp only
      split
      · split
        · refine .lossExpiry ?_
          exact hi
        · exact hi
      · exact hi
    · exact hi
  | start p =>
    cases h
    split
    · next hs => exact .enterDiscovery hi (notSolved (by simp [hs.1]))
    · exact hi
  | rearm p =>
    cases h
    split
    · next hs =>
      dsimp only
      split
      · exact hi
      · exact .enterDiscovery hi (notSolved (by simp [hs.1]))
    · exact hi
  | stop p =>
    cases h
    split
    · exact hi
    · exact hi
    · exact ended rfl rfl
    · exact ended rfl rfl
  | killFallingEdge held =>
    cases h
    split
    · exact ended rfl rfl
    · exact hi
  | softReset p =>
    have hsoft : ShippingInv s.softReset :=
      .of_none s.link.liveLevels_softReset (fun _ => rfl) (Link.resendsNoLevel_of_none rfl)
    cases h
    split
    · exact hsoft
    · rw [State.safetyEntry_softReset]
      exact hsoft
  | powerOnReset a b k f =>
    cases h
    exact .of_none rfl (fun _ => rfl) (Link.resendsNoLevel_of_none rfl)
  | discoveryConfigEnding status wide =>
    cases h
    split
    · split
      · split
        · refine hi.keeps ((Link.Moves.finish _ wide).trans (.send nofun nofun nofun)) rfl rfl ?_ id
          simp
        · refine .discoveryNext (hi.keeps (.finish _ wide) rfl rfl ?_ id)
          simp
      · exact hi.keeps (.finish _ wide) rfl rfl rfl id
    · exact hi
  | probeConfigEnding status wide =>
    cases h
    split
    · split
      · split
        · exact hi.moves ((Link.Moves.finish _ wide).trans (.send nofun nofun nofun)) rfl rfl
            (fun j rest hr => DriverTable.recover_round_head hr _ _)
            fun hclosed => DriverTable.recover_round_idle (hi.noRound hclosed) _ _
        · exact hi.keeps (.finish _ wide) rfl rfl rfl id
      · exact hi.keeps (.finish _ wide) rfl rfl rfl id
    · exact hi
  | readEnding status response wide =>
    cases h
    split
    · refine .readFollows (hi.keeps ?_ ?_ ?_ ?_ ?_) _ _ _
      · rw [State.handRead_link]
        exact .finish _ wide
      all_goals simp
    · exact hi
  | pass1Zone =>
    cases h
    split <;> exact hi
  | pass2Zone =>
    cases h
    split
    · next hphase =>
      split
      · refine .solveEnd hi ?_
        exact hp.not_solved (by simp [hphase.1])
      · exact hi
    · exact hi
  | latchDue =>
    cases h
    split
    · split
      · exact hi.keeps (.send nofun nofun nofun) rfl rfl rfl id
      · exact hi
    · exact hi
  | levelEnding status wide => exact .levelEnding h hi
  | latchEnding error wide =>
    have hfinished : ShippingInv { s with link := s.link.finish wide } := hi.keeps (.finish _ wide) rfl rfl rfl id
    cases h
    split
    · dsimp only
      split
      · exact hi.keeps (.resendLater _ wide rfl) rfl rfl rfl id
      · split
        · exact hfinished.bandEnded hg
        · exact hfinished
    · exact hi
  | _ =>
    have hgate := exec_keeps (p := .gate) h rfl
    exact hi.keeps (exec_moves h) (exec_keeps (p := .pend) h rfl)
      (congrArg Bank.tag (exec_keeps (p := .pendingBank) h rfl)) (exec_keeps_aspect (a := .work .round) h rfl rfl)
      fun hclosed => (congrArg Prod.fst hgate).symm.trans hclosed

/-- Settles O59: every command makes a move of the link, which keeps the queue in order and the mode mark to a busy
line; it offers a LEVEL only where the round of a SOLVED map has none live. A microsecond with nothing to take leaves
all of it. -/
theorem everyStepKeepsTheLinkInOrder : Obligations.EveryStepKeepsTheLinkInOrder := by
  intro s t h
  rcases step_cases h with rfl | ⟨c, rest, hc⟩
  · exact ⟨id, fun _ _ _ => id, id⟩
  · exact ⟨fun hi => exec_keeps_queueInv hc hi, fun hp hg ho hi => exec_keeps_shippingInv hc hp hg ho hi,
      fun hi => exec_keeps_stopPulseInv hc hi⟩

end Sys2Proof.Machine

/-! ## LATCH due, the end of the reset gap and the poll timer (O27) -/

namespace Sys2Proof.Machine

open Sys2Proof

/-! ### LATCH_DUE (R89, R90) -/

theorem exec_latchDue_due {s : State} {c : Schedule} (hc : s.timing.schedule = some c) (h : c.cursor < c.bands) :
    exec .latchDue s = .next
      { s.reach (c.dueTime c.cursor) with
        link := s.link.send (.latch c.tag c.cursor)
        timing := { s.timing with schedule := some { c with cursor := c.cursor + 1 } } } := by
  show execLatchDue s = _
  rw [execLatchDue, hc]
  exact congrArg _ (if_pos h)

/-- With no schedule, or with each of its bands due, no LATCH comes due (log entry 3). -/
theorem exec_latchDue_none {s : State} (h : ∀ c, s.timing.schedule = some c → c.bands ≤ c.cursor) :
    exec .latchDue s = .next s := by
  show execLatchDue s = _
  unfold execLatchDue
  split
  · next c hc => exact congrArg _ (if_neg (Nat.not_lt.2 (h c hc)))
  · rfl

/-! ### RESET_GAP_END (R141) -/

theorem exec_resetGapEnd_gap {s : State} (h : s.link.resetGap = true) :
    exec .resetGapEnd s = .next { s with link := { s.link with resetGap := false, idlePeriods := 0 } } :=
  congrArg _ (if_pos h)

theorem exec_resetGapEnd_past {s : State} (h : s.link.resetGap = false) : exec .resetGapEnd s = .next s :=
  congrArg _ (if_neg (by simp [h]))

/-! ### POLL_TIMER_EXPIRY (R135) -/

/-- A POLL is queued unless one is. -/
theorem Link.sendPoll_eq (l : Link) :
    l.sendPoll = { l with queue := if .poll ∈ l.queue then l.queue else enqueue .poll l.queue } := by
  unfold Link.sendPoll
  by_cases h : .poll ∈ l.queue
  · rw [if_pos (List.contains_iff_mem.2 h), if_pos h]
  · rw [if_neg (mt List.contains_iff_mem.1 h), if_neg h]
    rfl

theorem exec_pollTimerExpiry_running {s : State} {x : Nat} (h : s.link.pollTimer = some x) :
    exec .pollTimerExpiry s = .next
      { s.reach (x + s.link.pollInterval * 1000) with
        link := { s.link.sendPoll with pollTimer := some (x + s.link.pollInterval * 1000) } } := by
  show execPollTimerExpiry s = _
  rw [execPollTimerExpiry, h]

theorem exec_pollTimerExpiry_stopped {s : State} (h : s.link.pollTimer = none) :
    exec .pollTimerExpiry s = .next s := by
  show execPollTimerExpiry s = _
  rw [execPollTimerExpiry, h]

/-- Settles O27: the cursor's band due or none, the gap ended or past, the poll timer running or stopped. -/
theorem timedEventsQueueTheirMessages : Obligations.TimedEventsQueueTheirMessages := by
  refine ⟨fun s => ⟨fun c hc hlt => exec_latchDue_due hc hlt, exec_latchDue_none⟩,
    fun s => ⟨exec_resetGapEnd_gap, exec_resetGapEnd_past⟩,
    fun s => ⟨fun x hx => ?_, exec_pollTimerExpiry_stopped⟩⟩
  rw [exec_pollTimerExpiry_running hx, s.link.sendPoll_eq]
  rfl

end Sys2Proof.Machine

/-! ## Bands of rows, and the driver device that relies on them (O26) -/

namespace Sys2Proof.Machine

open Sys2Proof

/-! ### Bands divide the rows (R88) -/

section
variable {rows bands : Nat}

theorem bandOfRow_lt {r : Nat} (hb : 0 < bands) (hr : r < rows) : bandOfRow r bands rows < bands :=
  Nat.div_lt_of_lt_mul (Nat.mul_lt_mul_of_pos_right hr hb)

theorem bandOfRow_mono {r r' : Nat} (h : r ≤ r') : bandOfRow r bands rows ≤ bandOfRow r' bands rows :=
  Nat.div_le_div_right (Nat.mul_le_mul_right bands h)

/-- The first row of a band: ceil(b * R / Nb). -/
def bandStart (rows bands b : Nat) : Nat := (b * rows + bands - 1) / bands

theorem bandStart_le_iff {b r : Nat} (hb : 0 < bands) : bandStart rows bands b ≤ r ↔ b * rows ≤ r * bands := by
  unfold bandStart
  rw [← Nat.lt_succ_iff, Nat.div_lt_iff_lt_mul hb, Nat.succ_mul]
  omega

/-- A band holds the rows from its own first up to that of the next band. -/
theorem bandOfRow_eq_iff {r b : Nat} (hb : 0 < bands) (hr : 0 < rows) :
    bandOfRow r bands rows = b ↔ bandStart rows bands b ≤ r ∧ r < bandStart rows bands (b + 1) := by
  have hlower : b ≤ bandOfRow r bands rows ↔ bandStart rows bands b ≤ r := by
    rw [bandStart_le_iff hb, bandOfRow, Nat.le_div_iff_mul_le hr]
  have hupper : bandOfRow r bands rows < b + 1 ↔ r < bandStart rows bands (b + 1) := by
    rw [bandOfRow, Nat.div_lt_iff_lt_mul hr, ← Nat.not_le, ← bandStart_le_iff hb, Nat.not_le]
  rw [← hlower, ← hupper]
  omega

/-- The last band ends with the last row. -/
theorem bandStart_le_rows {b : Nat} (hb : 0 < bands) (h : b ≤ bands) : bandStart rows bands b ≤ rows := by
  rw [bandStart_le_iff hb, Nat.mul_comm rows]
  exact Nat.mul_le_mul_right rows h

/-- The rows of a band, counted. -/
theorem length_rows_of_band {b : Nat} (hb : 0 < bands) (hr : 0 < rows) (h : b < bands) :
    ((List.range rows).filter fun r => bandOfRow r bands rows = b).length
      = bandStart rows bands (b + 1) - bandStart rows bands b := by
  have hrows : (Finset.range rows).filter (fun r => bandOfRow r bands rows = b)
      = Finset.Ico (bandStart rows bands b) (bandStart rows bands (b + 1)) := by
    ext r
    simp only [Finset.mem_filter, Finset.mem_range, Finset.mem_Ico, bandOfRow_eq_iff hb hr]
    exact ⟨fun ⟨_, hband⟩ => hband, fun hband => ⟨hband.2.trans_le (bandStart_le_rows hb h), hband⟩⟩
  rw [← Nat.card_Ico, ← hrows]
  rfl

/-- From one band's first row to the next there are floor(R / Nb) or ceil(R / Nb) rows. -/
theorem bandStart_succ (b : Nat) (hb : 0 < bands) :
    bandStart rows bands (b + 1) = bandStart rows bands b + rows / bands
      ∨ bandStart rows bands (b + 1) = bandStart rows bands b + (rows + bands - 1) / bands := by
  have hnext : (b + 1) * rows + bands - 1 = (b * rows + bands - 1) + rows := by
    rw [Nat.succ_mul]
    omega
  have hceil : rows + bands - 1 = rows + (bands - 1) := by omega
  have hmod := Nat.mod_lt (b * rows + bands - 1) hb
  unfold bandStart
  rw [hnext, hceil, Nat.add_div hb, Nat.add_div hb, Nat.div_eq_of_lt (by omega : bands - 1 < bands),
    Nat.mod_eq_of_lt (by omega : bands - 1 < bands)]
  split
  · next hcarry =>
    rw [if_pos (by omega)]
    exact .inr rfl
  · exact .inl rfl

/-- Each band holds floor(R / Nb) or ceil(R / Nb) rows, and at least one where there are as many rows as bands. -/
theorem rows_of_band_even {b : Nat} (hb : 0 < bands) (hle : bands ≤ rows) (h : b < bands) :
    1 ≤ ((List.range rows).filter fun r => bandOfRow r bands rows = b).length
      ∧ (((List.range rows).filter fun r => bandOfRow r bands rows = b).length = rows / bands
        ∨ ((List.range rows).filter fun r => bandOfRow r bands rows = b).length = (rows + bands - 1) / bands) := by
  rw [length_rows_of_band hb (hb.trans_le hle) h]
  have hfloor : 1 ≤ rows / bands := Nat.div_pos hle hb
  have hceil : rows / bands ≤ (rows + bands - 1) / bands := Nat.div_le_div_right (by omega)
  have hsucc := bandStart_succ (rows := rows) b hb
  omega

end

/-! ### A driver device and its LATCHes (R88, R93) -/

section
variable {d : DriverDevice} {rows bands : Nat} {tag : Tag} {codes : List Nat}

theorem DriverDevice.latch_other {other : Tag} (hd : d.shadow = some (tag, codes)) (h : other ≠ tag) (band : Nat) :
    d.latch rows bands other band = d := by
  unfold DriverDevice.latch
  rw [hd]
  exact if_neg h.symm

theorem DriverDevice.latch_own (hd : d.shadow = some (tag, codes)) (band : Nat) :
    d.latch rows bands tag band =
      { d with
        lit := (List.range (d.tile.width * d.tile.height)).map fun k =>
          if bandOfRow (d.tile.row + k / d.tile.width) bands rows = band then codes.getD k 0 else d.lit.getD k 0 } := by
  unfold DriverDevice.latch
  rw [hd]
  exact if_pos rfl

/-- A device that lights its shadow in the rows of these bands, and everywhere else what it lit before. -/
structure DriverDevice.Lights (d : DriverDevice) (rows bands : Nat) (codes order : List Nat) (x : DriverDevice) :
    Prop where
  shadow : x.shadow = d.shadow
  tile : x.tile = d.tile
  length : order ≠ [] → x.lit.length = d.tile.width * d.tile.height
  lit : ∀ k, k < d.tile.width * d.tile.height → x.lit.getD k 0 =
    if bandOfRow (d.tile.row + k / d.tile.width) bands rows ∈ order then codes.getD k 0 else d.lit.getD k 0

/-- LATCHes of the shadow's tag, in whatever order, light the rows of their bands. -/
theorem DriverDevice.lights_foldl_latch (hd : d.shadow = some (tag, codes)) (order : List Nat) :
    d.Lights rows bands codes order (order.foldl (fun x b => x.latch rows bands tag b) d) := by
  induction order using List.reverseRecOn with
  | nil => exact ⟨rfl, rfl, fun h => absurd rfl h, fun k _ => by simp⟩
  | append_singleton order b ih =>
    obtain ⟨hshadow, htile, _, hlit⟩ := ih
    rw [List.foldl_concat, DriverDevice.latch_own (hshadow.trans hd)]
    refine ⟨hshadow, htile, fun _ => by simp [htile], fun k hk => ?_⟩
    rw [← htile] at hk
    rw [List.getD_eq_getElem _ _ (by simpa using hk), List.getElem_map, List.getElem_range, htile,
      hlit k (htile ▸ hk)]
    by_cases hb : bandOfRow (d.tile.row + k / d.tile.width) bands rows = b <;> simp [hb]

/-- Once every band has been latched the whole shadow is lit. -/
theorem DriverDevice.lit_of_all_bands (hd : d.shadow = some (tag, codes)) {order : List Nat}
    (hlen : codes.length = d.tile.width * d.tile.height) (hrows : d.tile.row + d.tile.height ≤ rows) (hb : 0 < bands)
    (hall : ∀ b, b < bands → b ∈ order) :
    (order.foldl (fun x b => x.latch rows bands tag b) d).lit = codes := by
  obtain ⟨_, _, hlength, hlit⟩ := DriverDevice.lights_foldl_latch (rows := rows) (bands := bands) hd order
  have hlength := hlength (List.ne_nil_of_mem (hall 0 hb))
  refine List.ext_getElem (hlength.trans hlen.symm) fun k hk hcodes => ?_
  have hband : bandOfRow (d.tile.row + k / d.tile.width) bands rows < bands := by
    have hline : k / d.tile.width < d.tile.height := Nat.div_lt_of_lt_mul (hlen ▸ hcodes)
    exact bandOfRow_lt hb (by omega)
  have hlit := hlit k (hlen ▸ hcodes)
  rwa [if_pos (hall _ hband), List.getD_eq_getElem _ _ hk, List.getD_eq_getElem _ _ hcodes] at hlit

end

/-- Settles O26: a band's rows run from ceil(b R / Nb) up to the next band's first; and each LATCH of the shadow's tag
lights its own rows. -/
theorem bandsDivideTheRows : Obligations.BandsDivideTheRows := by
  refine ⟨fun rows bands hb hle => ⟨fun r => bandOfRow_lt hb, fun r r' => bandOfRow_mono,
      fun b => rows_of_band_even hb hle⟩,
    fun d rows bands tag codes order => ⟨fun other band hother => DriverDevice.latch_other rfl hother band,
      fun hlen hrows hb hall => ?_⟩⟩
  exact DriverDevice.lit_of_all_bands (d := d.acceptLevel tag codes) rfl hlen hrows hb hall

end Sys2Proof.Machine

/-! ## LOAD DRIVER (O29) -/

namespace Sys2Proof.Machine

open Sys2Proof

/-! ### A READ in flight and its entry (R144) -/

/-- Loading an entry, or making it absent, touches nothing of the link but the message on the line. -/
theorem Link.entryGone_frame (l : Link) (which : Nat → Bool) :
    l.entryGone which = { l with line := (l.entryGone which).line } := rfl

theorem Link.entryGone_line_read {l : Link} {i addr resends : Nat} {asker : ReadAsker} {claim kept : Bool}
    (h : l.line = .message ⟨.read i addr asker, claim, resends, kept⟩) (which : Nat → Bool) :
    (l.entryGone which).line = .message ⟨.read i addr asker, claim, resends, kept && !which i⟩ := by
  simp [Link.entryGone, h]

/-- A line that carries no READ stays as it is. -/
theorem Link.entryGone_line_other {l : Link}
    (h : ∀ i addr asker claim resends kept, l.line ≠ .message ⟨.read i addr asker, claim, resends, kept⟩)
    (which : Nat → Bool) : (l.entryGone which).line = l.line := by
  cases hl : l.line with
  | message m =>
    obtain ⟨msg, claim, resends, kept⟩ := m
    cases msg with
    | read i addr asker => exact absurd hl (h i addr asker claim resends kept)
    | _ => simp [Link.entryGone, hl]
  | _ => simp [Link.entryGone, hl]

/-! ### The fields and the checks (R101, R102, R187) -/

/-- The entry that the fields of a present load bring. -/
def loadedEntry (a c r w h p q : Byte) (d : Domain) : DriverEntry :=
  ⟨a.toNat, ⟨c.toNat, r.toNat, w.toNat, h.toNat⟩, d, p.toNat, q.toNat, .unprobed, 0, 0, false⟩

theorem driverLoadOf_fields {a c r w h d p q : Byte} {rest : List Byte} (hd : d.toNat < 4) :
    driverLoadOf (1 :: a :: c :: r :: w :: h :: d :: p :: q :: rest) =
      if (loadedEntry a c r w h p q ⟨d.toNat, hd⟩).inRange then
        some (.present (loadedEntry a c r w h p q ⟨d.toNat, hd⟩))
      else none := dif_pos hd

theorem driverLoadOf_badDomain {a c r w h d p q : Byte} {rest : List Byte} (hd : ¬d.toNat < 4) :
    driverLoadOf (1 :: a :: c :: r :: w :: h :: d :: p :: q :: rest) = none := dif_neg hd

/-- A presence code that is not defined (R185). -/
theorem driverLoadOf_badPresence {presence : Byte} {rest : List Byte} (h : 2 ≤ presence.toNat) :
    driverLoadOf (presence :: rest) = none := by
  have h0 : presence ≠ 0 := fun hp => by simp [hp] at h
  have h1 : presence ≠ 1 := fun hp => by simp [hp] at h
  exact (if_neg h0).trans (if_neg h1)

theorem DriverEntry.inRange_iff {e : DriverEntry} :
    e.inRange = true ↔
      e.addr ≤ 62 ∧ e.tile.col ≤ 63 ∧ e.tile.row ≤ 39 ∧ 1 ≤ e.tile.width ∧ e.tile.width ≤ 16
        ∧ 1 ≤ e.tile.height ∧ e.tile.height ≤ 16 ∧ e.tile.width * e.tile.height ≤ 64 ∧ e.pwm ≤ 15
        ∧ e.current ≤ 255 := by
  simp only [DriverEntry.inRange, Bool.and_eq_true, decide_eq_true_eq, and_assoc]

/-- Tiles that overlap share the zone of their later first column and their later first row. -/
theorem Tile.shares_zone_of_overlaps {t u : Tile} (h : t.overlaps u = true) (ht : 1 ≤ t.width ∧ 1 ≤ t.height)
    (hu : 1 ≤ u.width ∧ 1 ≤ u.height) :
    t.contains (max t.col u.col) (max t.row u.row) = true
      ∧ u.contains (max t.col u.col) (max t.row u.row) = true := by
  simp only [Tile.overlaps, Bool.and_eq_true, decide_eq_true_eq, Tile.contains_iff] at h ⊢
  omega

/-- The checks against the grid and the other entries, zone by zone (R102). -/
theorem State.admitsLoad_iff {s : State} (hi : DriverInv s) {i : Nat} {e : DriverEntry} (he : e.inRange = true) :
    s.admitsLoad i e = true ↔
      e.tile.col + e.tile.width ≤ s.zone.cols ∧ e.tile.row + e.tile.height ≤ s.zone.rows
        ∧ ∀ j f, j ≠ i → s.drivers.entryAt j = some f →
            f.addr ≠ e.addr ∧ ∀ x y, ¬(e.tile.contains x y = true ∧ f.tile.contains x y = true) := by
  obtain ⟨hrange, _⟩ := hi
  have apart {j : Nat} {f : DriverEntry} (hf : s.drivers.entryAt j = some f) :
      e.tile.overlaps f.tile = false ↔ ∀ x y, ¬(e.tile.contains x y = true ∧ f.tile.contains x y = true) := by
    refine ⟨fun h => Tile.apart_of_not_overlaps h, fun h => Bool.eq_false_iff.2 fun hover => ?_⟩
    obtain ⟨_, _, _, hw, _, hh, _⟩ := DriverEntry.inRange_iff.1 he
    obtain ⟨_, hfin, _⟩ := hrange j f hf
    obtain ⟨_, _, _, hfw, _, hfh, _⟩ := DriverEntry.inRange_iff.1 hfin
    exact h _ _ (Tile.shares_zone_of_overlaps hover ⟨hw, hh⟩ ⟨hfw, hfh⟩)
  simp only [State.admitsLoad, Bool.and_eq_true, decide_eq_true_eq, List.all_eq_true, Prod.forall,
    DriverTable.mem_present, Bool.or_eq_true, Bool.not_eq_true', and_assoc]
  refine and_congr_right' (and_congr_right' ⟨fun h j f hj hf => ?_, fun h j f hjf => ?_⟩)
  · obtain ⟨hover, haddr⟩ := (h j f ⟨(hrange j f hf).1, hf⟩).resolve_left hj
    exact ⟨haddr, (apart hf).1 hover⟩
  · obtain ⟨_, hf⟩ := hjf
    refine or_iff_not_imp_left.2 fun hj => ?_
    obtain ⟨haddr, hzones⟩ := h j f hj hf
    exact ⟨(apart hf).2 hzones, haddr⟩

/-- What R101 and R102 ask of the fields of a present load at an index. -/
theorem loadedEntry_passes_iff {s : State} (hi : DriverInv s) {i : Nat} {a c r w h d p q : Byte} (hd : d.toNat < 4) :
    ((loadedEntry a c r w h p q ⟨d.toNat, hd⟩).inRange = true
        ∧ s.admitsLoad i (loadedEntry a c r w h p q ⟨d.toNat, hd⟩) = true) ↔
      a.toNat ≤ 62 ∧ c.toNat ≤ 63 ∧ r.toNat ≤ 39 ∧ 1 ≤ w.toNat ∧ w.toNat ≤ 16 ∧ 1 ≤ h.toNat ∧ h.toNat ≤ 16
        ∧ w.toNat * h.toNat ≤ 64 ∧ d.toNat ≤ 3 ∧ p.toNat ≤ 15
        ∧ c.toNat + w.toNat ≤ s.zone.cols ∧ r.toNat + h.toNat ≤ s.zone.rows
        ∧ (∀ j e, j ≠ i → s.drivers.entryAt j = some e →
            e.addr ≠ a.toNat
            ∧ ∀ x y, ¬((⟨c.toNat, r.toNat, w.toNat, h.toNat⟩ : Tile).contains x y = true
                ∧ e.tile.contains x y = true)) := by
  have hcurrent : q.toNat ≤ 255 := Nat.le_of_lt_succ q.isLt
  have hdomain : d.toNat ≤ 3 := Nat.le_of_lt_succ hd
  rw [and_congr_right fun hin => State.admitsLoad_iff hi hin, DriverEntry.inRange_iff]
  simp only [loadedEntry, hcurrent, hdomain, and_assoc, true_and]

/-! ### The command (R102, R103, R143) -/

theorem exec_loadDriver_wrongState {params : List Byte} {s : State} (h : s.sup.op ≠ .standby) :
    exec (.loadDriver params) s = .next (s.result .wrongState) := by
  show execLoadDriver params s = _
  rw [execLoadDriver, if_neg h]

theorem exec_loadDriver_badIndex {params : List Byte} {s : State} (h : s.sup.op = .standby)
    (hidx : entryIndexOf params = none) : exec (.loadDriver params) s = .next (s.result .range) := by
  show execLoadDriver params s = _
  rw [execLoadDriver, if_pos h, hidx]

theorem exec_loadDriver_absent {params : List Byte} {s : State} {i : Nat} (h : s.sup.op = .standby)
    (hidx : entryIndexOf params = some i) (hload : driverLoadOf (params.drop 1) = some .absent) :
    exec (.loadDriver params) s = .next
      (State.result .ok { s with drivers := s.drivers.put i none, link := s.link.entryGone fun j => i = j }) := by
  show execLoadDriver params s = _
  rw [execLoadDriver, if_pos h, hidx, hload]

/-- An entry that passes is loaded, with its thermal record at the power-on values (R143). -/
theorem exec_loadDriver_admitted {params : List Byte} {s : State} {i : Nat} {e : DriverEntry} (h : s.sup.op = .standby)
    (hidx : entryIndexOf params = some i) (hload : driverLoadOf (params.drop 1) = some (.present e))
    (hadmits : s.admitsLoad i e = true) :
    exec (.loadDriver params) s = .next
      (State.result .ok
        { s with
          drivers := s.drivers.put i (some e)
          link := s.link.entryGone fun j => i = j
          thermal := s.thermal.set .reset i .reset }) := by
  show execLoadDriver params s = _
  rw [execLoadDriver, if_pos h, hidx, hload]
  exact congrArg _ (if_pos hadmits)

theorem exec_loadDriver_notAdmitted {params : List Byte} {s : State} {i : Nat} {e : DriverEntry}
    (h : s.sup.op = .standby) (hidx : entryIndexOf params = some i)
    (hload : driverLoadOf (params.drop 1) = some (.present e)) (hadmits : ¬s.admitsLoad i e = true) :
    exec (.loadDriver params) s = .next (s.result .range) := by
  show execLoadDriver params s = _
  rw [execLoadDriver, if_pos h, hidx, hload]
  exact congrArg _ (if_neg hadmits)

/-- Settles O29: who owns a zone, what becomes of a READ in flight, then the command refused, and with an entry made
absent or loaded. -/
theorem loadDriverChecksTileAndAddress : Obligations.LoadDriverChecksTileAndAddress := by
  refine ⟨fun s hi col row i e => ?_, fun l which => ⟨l.entryGone_frame which,
      fun hother => Link.entryGone_line_other hother which,
      fun i addr asker claim resends kept hline => Link.entryGone_line_read hline which⟩,
    fun i a c r w h d p q rest s hi => ⟨fun params => exec_loadDriver_wrongState, fun hop hidx => ?_,
      fun hop presence hpresence => exec_loadDriver_refused hop (driverLoadOf_badPresence hpresence),
      fun hop hlt => ?_, fun hop hlt hpass => ?_, fun hop hlt hfail => ?_⟩⟩
  · rw [hi.owner_eq_some_iff, Tile.contains_iff]
  · have hnone (params : List Byte) : entryIndexOf (i :: params) = none := entryIndexOf_above hidx
    exact ⟨exec_loadDriver_badIndex hop (hnone _), exec_loadDriver_badIndex hop (hnone _)⟩
  · exact ⟨_, exec_loadDriver_absent hop (entryIndexOf_below hlt) rfl, (s.drivers.entryAt_put i.toNat · none), rfl⟩
  · have hd : d.toNat < 4 := by
      obtain ⟨_, _, _, _, _, _, _, _, hdomain, _⟩ := hpass
      exact Nat.lt_succ_of_le hdomain
    obtain ⟨hin, hadmits⟩ := (loadedEntry_passes_iff hi hd).2 hpass
    refine ⟨_, loadedEntry a c r w h p q ⟨d.toNat, hd⟩, exec_loadDriver_admitted hop (entryIndexOf_below hlt)
      ((driverLoadOf_fields hd).trans (if_pos hin)) hadmits, rfl, rfl, rfl, rfl, rfl, rfl, rfl, rfl, rfl,
      (s.drivers.entryAt_put i.toNat · _), (s.thermal.get_set .reset i.toNat · _), rfl⟩
  · by_cases hd : d.toNat < 4
    · by_cases hin : (loadedEntry a c r w h p q ⟨d.toNat, hd⟩).inRange = true
      · exact exec_loadDriver_notAdmitted hop (entryIndexOf_below hlt) ((driverLoadOf_fields hd).trans (if_pos hin))
          fun hadmits => hfail ((loadedEntry_passes_iff hi hd).1 ⟨hin, hadmits⟩)
      · exact exec_loadDriver_refused hop ((driverLoadOf_fields hd).trans (if_neg hin))
    · exact exec_loadDriver_refused hop (driverLoadOf_badDomain hd)

end Sys2Proof.Machine

/-! ## START and the entry to DISCOVERY (O30) -/

namespace Sys2Proof.Machine

open Sys2Proof

theorem exec_start_refused {params : List Byte} {s : State}
    (h : s.sup.op ≠ .standby ∨ s.zone.cols * s.zone.rows = 0 ∨ s.sup.kill = false) :
    exec (.start params) s = .next (s.result .wrongState) := by
  show execStart params s = _
  rw [execStart, if_neg]
  rintro ⟨hop, hn, hkill⟩
  rcases h with h | h | h
  · exact h hop
  · exact hn h
  · simp [h] at hkill

theorem exec_start_taken {params : List Byte} {s : State} (hop : s.sup.op = .standby)
    (hn : s.zone.cols * s.zone.rows ≠ 0) (hkill : s.sup.kill = true) :
    exec (.start params) s = .next (s.result .ok).enterDiscovery := by
  show execStart params s = _
  rw [execStart, if_pos ⟨hop, hn, hkill⟩]

/-- The device in DISCOVERY with every present entry UNPROBED, before it turns to the first (R105). -/
def State.discoveryReady (s : State) : State :=
  { s with
    sup := { s.sup with op := .discovery }
    drivers := { (s.drivers.mapEntries DriverEntry.unprobed) with round := none, probes := [] } }

theorem State.enterDiscovery_eq (s : State) : s.enterDiscovery = s.discoveryReady.discoverFrom 0 := rfl

theorem State.entryAt_discoveryReady (s : State) (i : Nat) :
    s.discoveryReady.drivers.entryAt i = (s.drivers.entryAt i).map DriverEntry.unprobed :=
  s.drivers.entryAt_mapEntries _ i

theorem State.entryAt_enterDiscovery (s : State) (i : Nat) :
    s.enterDiscovery.drivers.entryAt i = (s.drivers.entryAt i).map DriverEntry.unprobed := by
  have hentries : s.enterDiscovery.drivers.entries = s.discoveryReady.drivers.entries := by
    simp [State.enterDiscovery_eq]
  rw [← State.entryAt_discoveryReady, DriverTable.entryAt, hentries, DriverTable.entryAt]

/-- Discovery turns to the first present entry (R105). -/
theorem State.enterDiscovery_first {s : State} {i : Nat} {e : DriverEntry} (hi : i < 48)
    (he : s.drivers.entryAt i = some e) (hnone : ∀ j, j < i → s.drivers.entryAt j = none) :
    s.enterDiscovery =
      { s.discoveryReady with
        drivers := { s.discoveryReady.drivers with discovery := some i }
        link := s.link.send (configFor i e false) } := by
  have hfind := DriverTable.find_present (d := s.discoveryReady.drivers) (e := e.unprobed) i.zero_le hi
    (by rw [State.entryAt_discoveryReady, he, Option.map_some])
    fun k _ hk => by rw [State.entryAt_discoveryReady, hnone k hk, Option.map_none]
  rw [State.enterDiscovery_eq, State.discoverFrom_some hfind]
  rfl

/-- With no entry present, discovery is over as it begins (R107). -/
theorem State.enterDiscovery_empty {s : State} (hnone : ∀ i, i < 48 → s.drivers.entryAt i = none) :
    s.enterDiscovery =
      State.post .discoveryEmpty none none none
        { s.discoveryReady with
          sup := { s.sup with op := .standby }
          drivers := { s.discoveryReady.drivers with discovery := none }
          link := { s.link with queue := s.link.queue.filter fun m => !m.isAttention } } := by
  have hpresent : s.discoveryReady.drivers.present = [] := by
    refine List.eq_nil_iff_forall_not_mem.2 fun ⟨i, e⟩ hmem => ?_
    obtain ⟨hi, he⟩ := (DriverTable.mem_present _ i e).1 hmem
    simp [State.entryAt_discoveryReady, hnone i hi] at he
  rw [State.enterDiscovery_eq, State.discoverFrom_none (by rw [hpresent]; rfl), State.discoveryEnd,
    if_neg (by simp [hpresent])]
  rfl

/-- A table has a first present entry, or none at all. -/
theorem DriverTable.first_or_empty (d : DriverTable) :
    (∃ i e, i < 48 ∧ d.entryAt i = some e ∧ ∀ j, j < i → d.entryAt j = none) ∨ ∀ i, i < 48 → d.entryAt i = none := by
  by_cases h : ∃ i, d.entryAt i ≠ none ∧ i < 48
  · obtain ⟨hsome, hlt⟩ := Nat.find_spec h
    obtain ⟨e, he⟩ := Option.ne_none_iff_exists'.1 hsome
    refine .inl ⟨Nat.find h, e, hlt, he, fun j hj => ?_⟩
    by_contra hne
    exact Nat.find_min h hj ⟨hne, hj.trans hlt⟩
  · exact .inr fun i hi => by
      by_contra hne
      exact h ⟨i, hne, hi⟩

/-- What an entry to DISCOVERY leaves alone, whether it finds a first entry or none. -/
theorem State.enterDiscovery_frame (s : State) :
    s.enterDiscovery.drivers.round = none ∧ s.enterDiscovery.drivers.probes = []
      ∧ s.enterDiscovery.drivers.rotation = s.drivers.rotation
      ∧ s.enterDiscovery.sup = { s.sup with op := s.enterDiscovery.sup.op }
      ∧ s.enterDiscovery.now = s.now ∧ s.enterDiscovery.zone = s.zone ∧ s.enterDiscovery.solver = s.solver
      ∧ s.enterDiscovery.banks = s.banks ∧ s.enterDiscovery.timing = s.timing
      ∧ s.enterDiscovery.thermal = s.thermal ∧ s.enterDiscovery.picture = s.picture
      ∧ s.enterDiscovery.pending = s.pending := by
  rcases s.drivers.first_or_empty with ⟨i, e, hi, he, hnone⟩ | hnone
  · rw [State.enterDiscovery_first hi he hnone]
    and_intros <;> rfl
  · rw [State.enterDiscovery_empty hnone]
    and_intros <;> rfl

/-- Settles O30: START refused or taken; then the entry to DISCOVERY, with a first entry or with none. -/
theorem startBeginsDiscovery : Obligations.StartBeginsDiscovery := by
  refine ⟨fun params s => ⟨exec_start_refused, exec_start_taken⟩, ?_⟩
  rintro s _ rfl
  obtain ⟨hround, hprobes, hrotation, hsup, hnow, hzone, hsolver, hbanks, htiming, hthermal, hpicture, hpending⟩ :=
    s.enterDiscovery_frame
  refine ⟨s.entryAt_enterDiscovery, hround, hprobes, hrotation, hsup, hnow, hzone, hsolver, hbanks, htiming, hthermal,
    hpicture, hpending, fun i e hi he hfirst => ?_, fun hnone => ?_⟩
  · rw [State.enterDiscovery_first hi he hfirst]
    exact ⟨rfl, rfl, rfl, rfl⟩
  · rw [State.enterDiscovery_empty hnone]
    exact ⟨rfl, rfl, rfl, rfl⟩

end Sys2Proof.Machine

/-! ## The ending of a LEVEL (O32) -/

namespace Sys2Proof.Machine

open Sys2Proof

/-- A LEVEL with its claim withdrawn is dropped (R113, R126). -/
theorem exec_levelEnding_withdrawn {i addr resends : Nat} {tag : Tag} {codes : List Nat} {kept wide : Bool}
    {status : LinkStatus} {s : State}
    (hline : s.link.line = .message ⟨.level i addr tag codes, false, resends, kept⟩) :
    exec (.levelEnding status wide) s = .next { s with link := s.link.finish wide } := by
  show execLevelEnding status s wide = _
  rw [execLevelEnding, hline]
  exact congrArg _ (if_neg nofun)

theorem exec_levelEnding_claimed {i addr resends : Nat} {tag : Tag} {codes : List Nat} {kept wide : Bool}
    {status : LinkStatus} {s : State}
    (hline : s.link.line = .message ⟨.level i addr tag codes, true, resends, kept⟩) :
    exec (.levelEnding status wide) s = .next
      (State.continueRound
        { s with link := s.link.finish wide, drivers := s.drivers.levelEnded i (endingOf status) }) := by
  show execLevelEnding status s wide = _
  rw [execLevelEnding, hline]
  exact congrArg _ (if_pos rfl)

/-- The entry as the ending of its LEVEL leaves it (R104, R110). -/
def DriverEntry.afterLevel (e : DriverEntry) (x : Ending) : DriverEntry :=
  if x = .accept then
    { e.attempted with misses := 0, state := if e.state = .failing then .reachable else e.state }
  else if e.attempts + 1 < 3 then e.attempted
  else { e.attempted with state := .failing, failed := true }

/-- The round's list as the ending of the LEVEL of the entry at its head leaves it (R110). -/
def listAfterLevel (i attempts : Nat) (rest : List Nat) (x : Ending) : List Nat :=
  if x = .accept ∨ ¬attempts + 1 < 3 then rest
  else if x = .busy then rest ++ [i]
  else i :: rest

theorem DriverTable.levelEnded_head {d : DriverTable} {i : Nat} {e : DriverEntry} {rest : List Nat}
    (he : d.entryAt i = some e) (hround : d.round = some (i :: rest)) (x : Ending) :
    d.levelEnded i x =
      { d.put i (some (e.afterLevel x)) with round := some (listAfterLevel i e.attempts rest x) } := by
  have hhead : (i :: rest).erase i = rest := List.erase_cons_head ..
  unfold DriverTable.levelEnded DriverEntry.afterLevel listAfterLevel
  rw [he, hround]
  by_cases hmore : e.attempts + 1 < 3
  · cases x with
    | accept => simp [hhead]
    | busy => simp [hmore, hhead, Config.attempts]
    | checksumError | noResponse => simp [hmore, Config.attempts, DriverTable.put, hround]
  · cases x <;> simp [hmore, hhead, Config.attempts, DriverTable.failEntry]

/-- Settles O32: a withdrawn LEVEL, and then entry and list after each ending. -/
theorem levelEndingsWorkTheRoundsList : Obligations.LevelEndingsWorkTheRoundsList := by
  intro i addr resends tag codes claim kept wide status s l hline hl
  obtain rfl : l = s.link.finish wide := hl
  refine ⟨fun hclaim => ?_, fun e rest hclaim he hround => ?_⟩
  · subst hclaim
    exact exec_levelEnding_withdrawn hline
  · subst hclaim
    refine ⟨_, e.afterLevel (endingOf status), listAfterLevel i e.attempts rest (endingOf status),
      exec_levelEnding_claimed hline, fun j => ?_, ?_, fun hx => ?_, fun hx hmore => ?_, fun hx hmore => ?_,
      fun hx hlast => ?_⟩
    · simp [DriverTable.levelEnded_head he hround]
    · rw [DriverTable.levelEnded_head he hround]
      rfl
    · exact ⟨if_pos (.inl hx), if_pos hx⟩
    · simp [listAfterLevel, DriverEntry.afterLevel, hx, hmore, DriverEntry.attempted]
    · rcases hx with hx | hx <;>
        simp [listAfterLevel, DriverEntry.afterLevel, hx, hmore, DriverEntry.attempted]
    · have hno : ¬e.attempts + 1 < 3 := Nat.not_lt.2 hlast
      exact ⟨if_pos (.inr hno), (if_neg hx).trans (if_neg hno)⟩

end Sys2Proof.Machine

/-! ## PROBE and the ending of its CONFIG (O34) -/

namespace Sys2Proof.Machine

open Sys2Proof

/-! ### The command (R116) -/

theorem exec_probe_badIndex {params : List Byte} {s : State} (hrun : s.sup.op = .run)
    (hidx : entryIndexOf params = none) : exec (.probe params) s = .next (s.result .range) := by
  show execProbe params s = _
  rw [execProbe, if_pos hrun, hidx]

/-- An entry that is absent or not UNREACHABLE is not probed. -/
theorem exec_probe_notUnreachable {params : List Byte} {s : State} {i : Nat} (hrun : s.sup.op = .run)
    (hidx : entryIndexOf params = some i) (h : ∀ e, s.drivers.entryAt i = some e → e.state ≠ .unreachable) :
    exec (.probe params) s = .next (s.result .wrongState) := by
  show execProbe params s = _
  rw [execProbe, if_pos hrun, hidx]
  dsimp only
  cases he : s.drivers.entryAt i with
  | none => rfl
  | some e => exact congrArg _ (if_neg (h e he))

theorem exec_probe_outstanding {params : List Byte} {s : State} {i : Nat} {e : DriverEntry} (hrun : s.sup.op = .run)
    (hidx : entryIndexOf params = some i) (he : s.drivers.entryAt i = some e) (hstate : e.state = .unreachable)
    (h : i ∈ s.drivers.probes) : exec (.probe params) s = .next (s.result .ok) := by
  show execProbe params s = _
  rw [execProbe, if_pos hrun, hidx]
  dsimp only
  rw [he]
  exact congrArg _ ((if_pos hstate).trans (if_pos (List.contains_iff_mem.2 h)))

theorem exec_probe_queued {params : List Byte} {s : State} {i : Nat} {e : DriverEntry} (hrun : s.sup.op = .run)
    (hidx : entryIndexOf params = some i) (he : s.drivers.entryAt i = some e) (hstate : e.state = .unreachable)
    (h : i ∉ s.drivers.probes) :
    exec (.probe params) s = .next
      (State.result .ok
        { s with
          drivers := { s.drivers with probes := s.drivers.probes ++ [i] }
          link := s.link.send (configFor i e true) }) := by
  show execProbe params s = _
  rw [execProbe, if_pos hrun, hidx]
  dsimp only
  rw [he]
  exact congrArg _ ((if_pos hstate).trans (if_neg fun hc => h (List.contains_iff_mem.1 hc)))

/-! ### The ending of its CONFIG (R104, R111, R117, R126) -/

theorem exec_probeConfigEnding_withdrawn {i addr pwm cur w h resends : Nat} {kept wide : Bool} {status : LinkStatus}
    {s : State} (hline : s.link.line = .message ⟨.config i addr pwm cur w h true, false, resends, kept⟩) :
    exec (.probeConfigEnding status wide) s = .next { s with link := s.link.finish wide } := by
  show execProbeConfigEnding status s wide = _
  rw [execProbeConfigEnding, hline]
  exact congrArg _ (if_neg nofun)

theorem exec_probeConfigEnding_lost {i addr pwm cur w h resends : Nat} {kept wide : Bool} {status : LinkStatus}
    {s : State} (hline : s.link.line = .message ⟨.config i addr pwm cur w h true, true, resends, kept⟩)
    (hstatus : endingOf status ≠ .accept) :
    exec (.probeConfigEnding status wide) s = .next
      { s with
        link := s.link.finish wide
        drivers := { s.drivers with probes := s.drivers.probes.filter fun j => j ≠ i } } := by
  show execProbeConfigEnding status s wide = _
  rw [execProbeConfigEnding, hline]
  exact congrArg _ ((if_pos rfl).trans (if_neg hstatus))

theorem exec_probeConfigEnding_accept {i addr pwm cur w h resends : Nat} {kept wide : Bool} {status : LinkStatus}
    {s : State} (hline : s.link.line = .message ⟨.config i addr pwm cur w h true, true, resends, kept⟩)
    (hstatus : endingOf status = .accept) :
    exec (.probeConfigEnding status wide) s = .next
      (State.post .driverRecovered (some i) none none
        { s with
          link := (s.link.finish wide).send (.read i addr .probe)
          drivers := s.drivers.recover i s.banks.pend }) := by
  show execProbeConfigEnding status s wide = _
  rw [execProbeConfigEnding, hline]
  exact congrArg _ ((if_pos rfl).trans (if_pos hstatus))

/-- A recovered entry is REACHABLE with its counts at 0, and joins the round of a SOLVED map (R111, R117). -/
theorem DriverTable.recover_eq {d : DriverTable} {i : Nat} {e : DriverEntry} (he : d.entryAt i = some e)
    (pend : PendState) :
    d.recover i pend =
      { d.put i (some { e with state := .reachable, misses := 0, attempts := 0 }) with
        round := if pend = .solved then d.round.map fun list => list ++ [i] else d.round } := by
  unfold DriverTable.recover
  rw [he]
  cases d.round <;> by_cases h : pend = .solved <;> simp [h]

/-- Settles O34: PROBE refused, already outstanding or taken; then its CONFIG withdrawn, lost or accepted. -/
theorem probesRecoverADriver : Obligations.ProbesRecoverADriver := by
  refine ⟨fun i rest s => ⟨exec_probe_wrongState, fun hrun hidx => ?_, fun hrun hlt hstate => ?_,
      fun e hrun hlt he hstate => ⟨fun h => ?_, fun h => ?_⟩⟩,
    fun i addr pwm cur w h resends claim kept wide status s l hline hl => ?_⟩
  · exact exec_probe_badIndex hrun (entryIndexOf_above hidx)
  · exact exec_probe_notUnreachable hrun (entryIndexOf_below hlt) hstate
  · exact exec_probe_outstanding hrun (entryIndexOf_below hlt) he hstate h
  · exact exec_probe_queued hrun (entryIndexOf_below hlt) he hstate h
  · obtain rfl : l = s.link.finish wide := hl
    refine ⟨fun hclaim => ?_, fun hclaim hstatus => ?_, fun e hclaim he hstatus => ?_⟩
    · subst hclaim
      exact exec_probeConfigEnding_withdrawn hline
    · subst hclaim
      exact exec_probeConfigEnding_lost hline hstatus
    · subst hclaim
      refine ⟨_, exec_probeConfigEnding_accept hline hstatus, fun j => ?_, ?_⟩
      · simp [DriverTable.recover_eq he]
      · rw [DriverTable.recover_eq he]
        rfl

end Sys2Proof.Machine

/-! ## The arbiter (O35) -/

namespace Sys2Proof.Machine

open Sys2Proof

/-! ### Classes and queue order (R130) -/

theorem Message.isLevel_iff_cls {m : Message} : m.isLevel = true ↔ m.cls = 4 := by
  cases m with
  | read i addr asker => cases asker <;> simp [Message.isLevel, Message.cls]
  | _ => simp [Message.isLevel, Message.cls]

theorem Message.isAttention_iff_cls {m : Message} : m.isAttention = true ↔ m.cls = 3 := by
  cases m with
  | read i addr asker => cases asker <;> simp [Message.isAttention, Message.cls]
  | _ => simp [Message.isAttention, Message.cls]

theorem Message.isRotation_iff_cls {m : Message} : m.isRotation = true ↔ m.cls = 6 := by
  cases m with
  | read i addr asker => cases asker <;> simp [Message.isRotation, Message.cls]
  | _ => simp [Message.isRotation, Message.cls]

theorem Message.lookedUp_iff {m : Message} {i : Nat} :
    m.lookedUp = some i ↔
      (∃ addr tag codes, m = .level i addr tag codes) ∨ ∃ addr asker, m = .read i addr asker := by
  cases m <;> simp [Message.lookedUp]

/-- What the arbiter removes without sending (R114, R131). -/
theorem removable_iff {op : OpState} {d : DriverTable} {m : Message} :
    removable op d m = true ↔
      (∃ i e, m.lookedUp = some i ∧ d.entryAt i = some e ∧ e.state = .unreachable)
        ∨ (op = .safe ∧ (m.cls = 2 ∨ m.cls = 4 ∨ m.cls = 5)) := by
  unfold removable
  rw [Bool.or_eq_true]
  refine or_congr ?_ (by simp [or_assoc])
  cases hm : m.lookedUp with
  | none => simp
  | some i => cases he : d.entryAt i <;> simp [he]

/-- In a queue in class order a message goes behind its own class, and leaves the other classes as they are. -/
theorem filter_cls_enqueue {m : Message} {q : List Message} (h : q.Pairwise fun a b => a.cls ≤ b.cls) (k : Nat) :
    (enqueue m q).filter (fun x => x.cls = k) = q.filter (fun x => x.cls = k) ++ if m.cls = k then [m] else [] := by
  induction q with
  | nil => by_cases hk : m.cls = k <;> simp [enqueue, hk]
  | cons x rest ih =>
    obtain ⟨hx, hrest⟩ := List.pairwise_cons.1 h
    by_cases hlt : m.cls < x.cls
    · by_cases hk : m.cls = k
      · have hnone : (x :: rest).filter (fun y => y.cls = k) = [] := by
          refine List.filter_eq_nil_iff.2 fun y hy => ?_
          have hle : x.cls ≤ y.cls := by
            rcases List.mem_cons.1 hy with rfl | hy
            · exact le_rfl
            · exact hx y hy
          simp only [decide_eq_true_eq]
          omega
        rw [enqueue, if_pos hlt, List.filter_cons_of_pos (by simpa using hk), hnone, if_pos hk]
        rfl
      · rw [enqueue, if_pos hlt, List.filter_cons_of_neg (by simpa using hk), if_neg hk, List.append_nil]
    · rw [enqueue, if_neg hlt, List.filter_cons, List.filter_cons, ih hrest]
      split <;> rfl

/-! ### The resend that waits (R127, R131) -/

theorem Link.resendNow_begins {l : Link} {op : OpState} {m : InFlight} (h : l.resend = some m)
    (hop : op ≠ .safe ∨ m.msg = .blank) : l.resendNow op = some m := by
  rw [Link.resendNow, h]
  exact if_neg fun ⟨hsafe, hblank⟩ => hop.elim (· hsafe) (hblank ·)

theorem Link.resendNow_safe {l : Link} {m : InFlight} (h : l.resend = some m) (hblank : m.msg ≠ .blank) :
    l.resendNow .safe = none := by
  rw [Link.resendNow, h]
  exact if_pos ⟨rfl, hblank⟩

theorem Link.resendNow_of_none {l : Link} (h : l.resend = none) (op : OpState) : l.resendNow op = none := by
  rw [Link.resendNow, h]

/-- In SAFE only a BLANK is resent. -/
theorem Link.blank_of_resendNow_safe {l : Link} {m : InFlight} (h : l.resendNow .safe = some m) : m.msg = .blank := by
  by_contra hblank
  rw [Link.resendNow_safe (Link.resendNow_some h) hblank] at h
  cases h

/-! ### The choice (R116, R131) -/

theorem Link.choose_resend {l : Link} {op : OpState} {m : InFlight} (h : l.resendNow op = some m) (d : DriverTable) :
    l.choose op d = ({ l with resend := none } : Link).begin m := by
  rw [Link.choose, h]

theorem Link.choose_empty {l : Link} {op : OpState} (h : l.resendNow op = none) (hq : l.queue = []) (d : DriverTable) :
    l.choose op d = { l with resend := none } := by
  rw [Link.choose, h, hq]
  show ({ l with resend := none, queue := [] } : Link) = _
  rw [← hq]

theorem Link.choose_head {l : Link} {op : OpState} {d : DriverTable} {m : Message} {rest : List Message}
    (h : l.resendNow op = none) (hq : l.queue = m :: rest) (hm : removable op d m = false) :
    l.choose op d = ({ l with resend := none, queue := rest } : Link).begin ⟨m, true, 0, true⟩ := by
  rw [Link.choose, h, hq, List.dropWhile_cons_of_neg (by simp [hm])]

/-- A choice passes over a message that is to be removed. -/
theorem Link.choose_removed {l : Link} {op : OpState} {d : DriverTable} {m : Message} {rest : List Message}
    (h : l.resendNow op = none) (hq : l.queue = m :: rest) (hm : removable op d m = true) :
    l.choose op d = ({ l with queue := rest } : Link).choose op d := by
  have h' : ({ l with queue := rest } : Link).resendNow op = none := h
  rw [Link.choose, Link.choose, h, h', hq, List.dropWhile_cons_of_pos hm]

/-- What a choice begins where no resend does is not to be removed (R131). -/
theorem Link.not_removable_of_choose {l : Link} {op : OpState} {d : DriverTable} {m : InFlight}
    (h : l.resendNow op = none) (hidle : l.line = .idle) (hm : (l.choose op d).line = .message m) :
    removable op d m.msg = false := by
  rw [Link.choose, h] at hm
  dsimp only at hm
  split at hm
  · rw [hidle] at hm
    cases hm
  · next x rest hx =>
    cases hm
    simpa [hx] using List.head_dropWhile_not (removable op d) (l := l.queue) (by simp [hx])

/-- A READ that a probe asked for, of an entry. -/
def Message.probeFor (i : Nat) : Message → Bool
  | .read j _ .probe => i = j
  | _ => false

theorem Link.probesAfterChoice_resend {l : Link} {op : OpState} {m : InFlight} (h : l.resendNow op = some m)
    (d : DriverTable) : l.probesAfterChoice op d = d.probes := by
  rw [Link.probesAfterChoice, h]

theorem Link.probesAfterChoice_queue {l : Link} {op : OpState} (h : l.resendNow op = none) (d : DriverTable) :
    l.probesAfterChoice op d =
      d.probes.filter fun i => !(l.queue.takeWhile (removable op d)).any (Message.probeFor i) := by
  rw [Link.probesAfterChoice, h]
  rfl

theorem Link.probesAfterChoice_kept {l : Link} {op : OpState} {d : DriverTable} (h : l.resendNow op = none)
    (hq : l.queue.takeWhile (removable op d) = []) : l.probesAfterChoice op d = d.probes := by
  rw [Link.probesAfterChoice_queue h, hq]
  exact List.filter_true _

/-- The probe of a removed READ ends (R116). -/
theorem Link.probesAfterChoice_removed {l : Link} {op : OpState} {d : DriverTable} {m : Message} {rest : List Message}
    (h : l.resendNow op = none) (hq : l.queue = m :: rest) (hm : removable op d m = true) :
    l.probesAfterChoice op d =
      ({ l with queue := rest } : Link).probesAfterChoice op
        { d with probes := d.probes.filter fun i => !m.probeFor i } := by
  have h' : ({ l with queue := rest } : Link).resendNow op = none := h
  rw [Link.probesAfterChoice_queue h, Link.probesAfterChoice_queue h', hq, List.takeWhile_cons_of_pos hm]
  dsimp only
  rw [List.filter_filter]
  refine List.filter_congr fun i _ => ?_
  rw [List.any_cons, Bool.not_or, Bool.and_comm]
  rfl

/-- A choice on an idle line past its gap. -/
theorem exec_transmitChoice_idle {s : State} (hidle : s.link.line = .idle) (hgap : s.link.resetGap = false) :
    exec .transmitChoice s = .next
      { s with
        link := { s.link.choose s.sup.op s.drivers with idlePeriods := nextChoice s.link.idlePeriods }
        drivers := { s.drivers with probes := s.link.probesAfterChoice s.sup.op s.drivers } } := by
  show execTransmitChoice s = _
  rw [execTransmitChoice, if_pos ⟨hidle, hgap⟩]

theorem exec_transmitChoice_busy {s : State} (h : s.link.line ≠ .idle ∨ s.link.resetGap = true) :
    exec .transmitChoice s = .next s := by
  show execTransmitChoice s = _
  rw [execTransmitChoice, if_neg fun ⟨hidle, hgap⟩ => h.elim (· hidle) (by simp [hgap])]

/-! ### A message begins at a choice alone -/

theorem Link.quench_line_idle_iff {l : Link} : l.quench.line = .idle ↔ l.line = .idle := by
  rw [Link.quench_line, Link.withdraw_line_idle_iff]

theorem Link.softReset_line_idle_iff {l : Link} : l.softReset.line = .idle ↔ l.line = .idle := by
  rw [Link.softReset_line, Link.withdraw_line_idle_iff]

theorem Link.dropLevel_line_idle_iff {l : Link} : l.dropLevel.line = .idle ↔ l.line = .idle :=
  Link.withdraw_line_idle_iff (which := Message.isLevel)

theorem Link.entryGone_line_idle_iff {l : Link} {which : Nat → Bool} :
    (l.entryGone which).line = .idle ↔ l.line = .idle := by
  cases h : l.line with
  | message m =>
    obtain ⟨msg, claim, resends, kept⟩ := m
    cases msg <;> simp [Link.entryGone, h]
  | _ => simp [Link.entryGone, h]

theorem Link.sendPoll_line (l : Link) : l.sendPoll.line = l.line := by
  unfold Link.sendPoll
  split <;> rfl

theorem State.safetyEntry_line_idle_iff {s : State} : s.safetyEntry.link.line = .idle ↔ s.link.line = .idle :=
  Link.quench_line_idle_iff

theorem State.lossSolve_line_idle_iff {s : State} : s.lossSolve.link.line = .idle ↔ s.link.line = .idle := by
  rcases s.lossSolve_cases with hs | ⟨_, _, hs⟩
  · rw [hs]
  · rw [hs, State.startSolve_link]
    split
    · exact Link.dropLevel_line_idle_iff
    · rfl

theorem State.internalStart_line_idle_iff {s : State} {next : Nat} :
    (s.internalStart next).link.line = .idle ↔ s.link.line = .idle := by
  simp [State.internalStart, State.lossSolve_line_idle_iff]

theorem State.lossExpiry_line_idle_iff {s : State} : s.lossExpiry.link.line = .idle ↔ s.link.line = .idle := by
  simp [State.lossExpiry, State.internalStart_line_idle_iff]

theorem State.replaceWork_line_idle_iff {s : State} : s.replaceWork.link.line = .idle ↔ s.link.line = .idle := by
  unfold State.replaceWork
  split
  · split
    · exact Link.dropLevel_line_idle_iff
    · rfl
  · rfl

/-- A line that is idle stays so but for a choice and for the start of an arbitration. -/
theorem exec_keeps_idle_line {c : Instr} {s t : State} (h : exec c s = .next t) (hidle : s.link.line = .idle)
    (hchoice : c ≠ .transmitChoice) (hstart : c ≠ .attentionStart) : t.link.line = .idle := by
  cases c with
  | transmitChoice => exact absurd rfl hchoice
  | attentionStart => exact absurd rfl hstart
  | arbitrationEnd | levelEnding | latchEnding | blankEnding | discoveryConfigEnding | probeConfigEnding | readEnding
  | pollEnding =>
    -- Nothing ends on an idle line.
    cases h
    simp [hidle]
  | closeFrame record cut =>
    rcases exec_closeFrame_cases h with ⟨_, rfl⟩ | ⟨_, rfl⟩ | ⟨_, _, _, r, _, rfl⟩
    · exact hidle
    · exact hidle
    · exact State.replaceWork_line_idle_iff.2 hidle
  | setGrid p =>
    rcases exec_setGrid_cases h with ⟨_, rfl⟩ | ⟨_, _, _, _, rfl⟩
    · exact hidle
    · exact Link.entryGone_line_idle_iff.2 hidle
  | powerOnReset =>
    cases h
    rfl
  | pictureGainValue | ackAlert | setLoss =>
    cases h
    dsimp only
    (repeat' split) <;> simpa [State.lossExpiry_line_idle_iff] using hidle
  | lossTimerExpiry | internalFrameStart | pollTimerExpiry | loadDriver | stop | softReset | killFallingEdge =>
    cases h
    (repeat' split) <;>
      simpa [State.lossExpiry_line_idle_iff, State.internalStart_line_idle_iff, Link.sendPoll_line,
        Link.entryGone_line_idle_iff, Link.quench_line_idle_iff, State.safetyEntry_line_idle_iff,
        State.softReset, Link.softReset_line_idle_iff] using hidle
  | setLink p =>
    cases h
    (repeat' split) <;> exact hidle
  | _ =>
    cases h
    (repeat' split) <;> simpa using hidle

/-- A message begins at a choice alone (R121, R131). -/
theorem eq_transmitChoice_of_begins {c : Instr} {s t : State} {m : InFlight} (h : exec c s = .next t)
    (hidle : s.link.line = .idle) (hm : t.link.line = .message m) : c = .transmitChoice := by
  by_contra hchoice
  by_cases hstart : c = .attentionStart
  · subst hstart
    cases h
    split at hm
    · cases hm
    · rw [hidle] at hm
      cases hm
  · rw [exec_keeps_idle_line h hidle hchoice hstart] at hm
    cases hm

/-- What begins on an idle line: in SAFE a BLANK that is resent, and elsewhere a message that is not to be removed. -/
theorem begins_blank_or_not_removable {c : Instr} {s t : State} {m : InFlight} (h : exec c s = .next t)
    (hidle : s.link.line = .idle) (hm : t.link.line = .message m) (hresend : s.link.resend = none ∨ s.sup.op = .safe) :
    m.msg = .blank ∨ removable s.sup.op s.drivers m.msg = false := by
  obtain rfl := eq_transmitChoice_of_begins h hidle hm
  cases hgap : s.link.resetGap with
  | true =>
    rw [exec_transmitChoice_busy (.inr hgap)] at h
    cases h
    rw [hidle] at hm
    cases hm
  | false =>
    rw [exec_transmitChoice_idle hidle hgap] at h
    cases h
    have hm : (s.link.choose s.sup.op s.drivers).line = .message m := hm
    cases hnow : s.link.resendNow s.sup.op with
    | none => exact .inr (Link.not_removable_of_choose hnow hidle hm)
    | some x =>
      rw [Link.choose_resend hnow] at hm
      cases hm
      rcases hresend with hnone | hsafe
      · rw [Link.resendNow_of_none hnone] at hnow
        cases hnow
      · rw [hsafe] at hnow
        exact .inl (Link.blank_of_resendNow_safe hnow)

/-! ### The choice on an idle line, case by case -/

theorem exec_transmitChoice_resend {s : State} {m : InFlight} (hidle : s.link.line = .idle)
    (hgap : s.link.resetGap = false) (h : s.link.resendNow s.sup.op = some m) :
    exec .transmitChoice s = .next
      { s with link := { s.link with
          line := .message m, resend := none, attentionHold := false
          idlePeriods := nextChoice s.link.idlePeriods } } := by
  rw [exec_transmitChoice_idle hidle hgap, Link.choose_resend h, Link.probesAfterChoice_resend h]
  rfl

/-- A resend that may not begin is dropped by the choice (R127, R131, log entry 19). -/
theorem exec_transmitChoice_held {s : State} (hidle : s.link.line = .idle) (hgap : s.link.resetGap = false)
    (h : s.link.resendNow s.sup.op = none) :
    exec .transmitChoice s = exec .transmitChoice { s with link := { s.link with resend := none } } := by
  have h' : ({ s.link with resend := none } : Link).resendNow s.sup.op = none := rfl
  rw [exec_transmitChoice_idle hidle hgap, exec_transmitChoice_idle (by exact hidle) (by exact hgap)]
  dsimp only
  rw [Link.probesAfterChoice_queue h, Link.probesAfterChoice_queue h', Link.choose, Link.choose, h, h']

theorem exec_transmitChoice_empty {s : State} (hidle : s.link.line = .idle) (hgap : s.link.resetGap = false)
    (h : s.link.resend = none) (hq : s.link.queue = []) :
    exec .transmitChoice s = .next
      { s with link := { s.link with idlePeriods := nextChoice s.link.idlePeriods } } := by
  have hnow := Link.resendNow_of_none h s.sup.op
  rw [exec_transmitChoice_idle hidle hgap, Link.choose_empty hnow hq,
    Link.probesAfterChoice_kept hnow (by rw [hq]; rfl)]
  dsimp only
  rw [← h]

theorem exec_transmitChoice_head {s : State} {m : Message} {rest : List Message} (hidle : s.link.line = .idle)
    (hgap : s.link.resetGap = false) (h : s.link.resend = none) (hq : s.link.queue = m :: rest)
    (hm : removable s.sup.op s.drivers m = false) :
    exec .transmitChoice s = .next
      { s with link := { s.link with
          line := .message ⟨m, true, 0, true⟩, queue := rest, attentionHold := false
          idlePeriods := nextChoice s.link.idlePeriods } } := by
  have hnow := Link.resendNow_of_none h s.sup.op
  rw [exec_transmitChoice_idle hidle hgap, Link.choose_head hnow hq hm,
    Link.probesAfterChoice_kept hnow (by rw [hq, List.takeWhile_cons_of_neg (by simp [hm])])]
  dsimp only [Link.begin]
  rw [← h]

/-- A message that is to be removed makes way for the next, and the probe that asked for it ends (R116, R131). -/
theorem exec_transmitChoice_removed {s : State} {m : Message} {rest : List Message} (hidle : s.link.line = .idle)
    (hgap : s.link.resetGap = false) (h : s.link.resend = none) (hq : s.link.queue = m :: rest)
    (hm : removable s.sup.op s.drivers m = true) :
    exec .transmitChoice s = exec .transmitChoice
      { s with
        link := { s.link with queue := rest }
        drivers := { s.drivers with probes := s.drivers.probes.filter fun i => !m.probeFor i } } := by
  have hnow := Link.resendNow_of_none h s.sup.op
  rw [exec_transmitChoice_idle hidle hgap, exec_transmitChoice_idle (by exact hidle) (by exact hgap),
    Link.choose_removed hnow hq hm, Link.probesAfterChoice_removed hnow hq hm]
  rfl

/-- Settles O35: the classes, the order of the queue, the choice case by case, and what it begins. -/
theorem theArbiterBeginsTheFirstServable : Obligations.TheArbiterBeginsTheFirstServable := by
  refine ⟨fun l m more op d => ⟨?_, Message.isLevel_iff_cls, Message.isAttention_iff_cls, Message.isRotation_iff_cls,
      fun i => Message.lookedUp_iff, removable_iff, rfl, rfl, rfl⟩,
    fun m q hq => ⟨pairwise_enqueue hq, filter_cls_enqueue hq⟩,
    fun s => ⟨exec_transmitChoice_busy, fun hidle hgap => ⟨fun m hm hop => ?_, fun m hm hsafe hblank => ?_,
      fun h hq => ⟨_, exec_transmitChoice_empty hidle hgap h hq, rfl⟩,
      fun m rest h hq hm => ⟨_, exec_transmitChoice_head hidle hgap h hq hm, rfl⟩, fun m rest h hq hm => ?_⟩⟩,
    fun c s t m h hidle hm hresend => ?_⟩
  · cases m with
    | read i addr asker => cases asker <;> rfl
    | _ => rfl
  · exact ⟨_, exec_transmitChoice_resend hidle hgap (Link.resendNow_begins hm hop), rfl⟩
  · exact exec_transmitChoice_held hidle hgap (by rw [hsafe]; exact Link.resendNow_safe hm hblank)
  · rw [exec_transmitChoice_removed hidle hgap h hq hm]
    cases m with
    | read j addr asker => cases asker <;> simp [Message.probeFor]
    | _ => rfl
  · rcases begins_blank_or_not_removable h hidle hm hresend with hblank | hkept
    · rw [hblank]
      exact ⟨fun _ => ⟨rfl, nofun, nofun⟩, nofun⟩
    · have hno := mt removable_iff.2 (Bool.eq_false_iff.1 hkept)
      refine ⟨fun hsafe => ?_, fun i e hi he hstate => hno (.inl ⟨i, e, hi, he, hstate⟩)⟩
      have hcls : ¬(m.msg.cls = 2 ∨ m.msg.cls = 4 ∨ m.msg.cls = 5) := fun hc => hno (.inr ⟨hsafe, hc⟩)
      exact ⟨Bool.eq_false_iff.2 fun hlevel => hcls (.inr (.inl (Message.isLevel_iff_cls.1 hlevel))),
        fun tag b hlatch => hcls (.inl (by rw [hlatch]; rfl)),
        fun i addr p q w x f hconfig => hcls (.inr (.inr (by rw [hconfig]; rfl)))⟩

end Sys2Proof.Machine

/-! ## The ending of a POLL and attention requests (O37) -/

namespace Sys2Proof.Machine

open Sys2Proof

theorem exec_pollEnding_taken {low : BitVec 63} {claim kept wide : Bool} {resends : Nat} {s : State}
    (hline : s.link.line = .message ⟨.poll, claim, resends, kept⟩) :
    exec (.pollEnding low wide) s = .next
      { s with link := Link.attentionRequests s.sup.op s.drivers (s.link.finish wide) (pollRequests low) } := by
  show execPollEnding low s wide = _
  rw [execPollEnding, hline]

/-- Requests are handled one after the other (R136). -/
theorem Link.attentionRequests_eq_foldl (op : OpState) (d : DriverTable) (l : Link) (addrs : List Nat) :
    Link.attentionRequests op d l addrs = addrs.foldl (fun l a => l.attentionRequest op d a) l := by
  induction addrs generalizing l with
  | nil => rfl
  | cons a rest ih => exact ih _

theorem DriverTable.byAddr_eq_some {d : DriverTable} {addr i : Nat} {e : DriverEntry} (hi : i < 48)
    (he : d.entryAt i = some e) (haddr : e.addr = addr)
    (hunique : ∀ j f, j < 48 → d.entryAt j = some f → f.addr = addr → j = i) : d.byAddr addr = some (i, e) := by
  cases hfound : d.byAddr addr with
  | none => exact absurd haddr (DriverTable.byAddr_none hfound hi he)
  | some p =>
    obtain ⟨j, f⟩ := p
    obtain ⟨hj, hf, hfaddr⟩ := DriverTable.byAddr_some hfound
    obtain rfl := hunique j f hj hf hfaddr
    rw [he] at hf
    cases hf
    rfl

theorem DriverTable.byAddr_eq_none {d : DriverTable} {addr : Nat}
    (h : ∀ i e, i < 48 → d.entryAt i = some e → e.addr ≠ addr) : d.byAddr addr = none := by
  cases hfound : d.byAddr addr with
  | none => rfl
  | some p =>
    obtain ⟨hi, he, haddr⟩ := DriverTable.byAddr_some hfound
    exact absurd haddr (h _ _ hi he)

/-- An attention READ for an entry. -/
def Message.attentionFor (i : Nat) : Message → Bool
  | .read j _ .attention => i = j
  | _ => false

theorem Message.attentionFor_iff {i : Nat} {m : Message} :
    m.attentionFor i = true ↔ ∃ a, m = .read i a .attention := by
  cases m with
  | read j a asker => cases asker <;> simp [Message.attentionFor, eq_comm]
  | _ => simp [Message.attentionFor]

/-- The line carries an attention READ for an entry. -/
def Line.attentionFor (i : Nat) : Line → Bool
  | .message m => m.msg.attentionFor i
  | _ => false

theorem Line.attentionFor_iff {i : Nat} {l : Line} :
    l.attentionFor i = true ↔ ∃ m a, l = .message m ∧ m.msg = .read i a .attention := by
  cases l with
  | message m => simp [Line.attentionFor, Message.attentionFor_iff]
  | _ => simp [Line.attentionFor]

theorem Link.hasAttention_eq (l : Link) (i : Nat) :
    l.hasAttention i = (l.queue.any (Message.attentionFor i) || l.line.attentionFor i) := rfl

/-- An entry has an attention READ in the queue or on the line. -/
theorem Link.hasAttention_iff {l : Link} {i : Nat} :
    l.hasAttention i = true ↔
      (∃ a, .read i a .attention ∈ l.queue) ∨ ∃ m a, l.line = .message m ∧ m.msg = .read i a .attention := by
  rw [Link.hasAttention_eq, Bool.or_eq_true, Line.attentionFor_iff, List.any_eq_true]
  refine or_congr_left ⟨fun ⟨m, hm, hfor⟩ => ?_, fun ⟨a, ha⟩ => ⟨_, ha, Message.attentionFor_iff.2 ⟨a, rfl⟩⟩⟩
  obtain ⟨a, rfl⟩ := Message.attentionFor_iff.1 hfor
  exact ⟨a, hm⟩

theorem Link.attentionRequest_queued {l : Link} {op : OpState} {d : DriverTable} {addr i : Nat} {e : DriverEntry}
    (hfound : d.byAddr addr = some (i, e)) (hop : op = .discovery ∨ op = .run) (hship : e.shippable = true)
    (hnone : l.hasAttention i = false) : l.attentionRequest op d addr = l.send (.read i addr .attention) := by
  rw [Link.attentionRequest, hfound]
  exact if_pos ⟨hop, hship, hnone⟩

theorem Link.attentionRequest_dropped {l : Link} {op : OpState} {d : DriverTable} {addr i : Nat} {e : DriverEntry}
    (hfound : d.byAddr addr = some (i, e))
    (h : ¬((op = .discovery ∨ op = .run) ∧ e.shippable = true ∧ l.hasAttention i = false)) :
    l.attentionRequest op d addr = l := by
  rw [Link.attentionRequest, hfound]
  exact if_neg h

/-- An address that no entry has is asked for in vain (R140). -/
theorem Link.attentionRequest_unknown {l : Link} {op : OpState} {d : DriverTable} {addr : Nat}
    (hfound : d.byAddr addr = none) : l.attentionRequest op d addr = l := by
  rw [Link.attentionRequest, hfound]

/-- Settles O37: a POLL's requests one after the other, and each of them queued or dropped. -/
theorem attentionRequestsAreResolved : Obligations.AttentionRequestsAreResolved := by
  refine ⟨fun low claim kept wide resends s hline => ?_,
    fun op d l addr => ⟨fun i e hi he haddr hunique => ⟨fun hop hstate hqueue hline => ?_, fun h => ?_⟩, fun h => ?_⟩⟩
  · rw [exec_pollEnding_taken hline, Link.attentionRequests_eq_foldl]
    rfl
  · have hnone : l.hasAttention i = false := by
      refine Bool.eq_false_iff.2 fun h => ?_
      rcases Link.hasAttention_iff.1 h with ⟨a, ha⟩ | ⟨m, a, hm, hmsg⟩
      · exact hqueue a ha
      · exact hline m a hm hmsg
    exact Link.attentionRequest_queued (DriverTable.byAddr_eq_some hi he haddr hunique) hop
      (DriverEntry.shippable_iff.2 hstate) hnone
  · refine Link.attentionRequest_dropped (DriverTable.byAddr_eq_some hi he haddr hunique) ?_
    rintro ⟨hop, hship, hnone⟩
    rcases h with h | h | h
    · exact h hop
    · exact h (DriverEntry.shippable_iff.1 hship)
    · exact Bool.eq_false_iff.1 hnone (Link.hasAttention_iff.2 h)
  · exact Link.attentionRequest_unknown (DriverTable.byAddr_eq_none h)

end Sys2Proof.Machine

/-! ## The ending of a READ (O41) -/

namespace Sys2Proof.Machine

open Sys2Proof

/-! ### What a READ brings (R144 to R146, R148, R149, R152) -/

theorem exec_readEnding_eq {i addr resends : Nat} {asker : ReadAsker} {claim kept wide : Bool} {status : LinkStatus}
    {response : List Bool} {s : State}
    (hline : s.link.line = .message ⟨.read i addr asker, claim, resends, kept⟩) :
    exec (.readEnding status response wide) s = .next
      ((({ s with link := s.link.finish wide } : State).handRead i kept (readReportOf status response)).readFollows
        i asker claim) := by
  show execReadEnding status response s wide = _
  rw [execReadEnding, hline]

/-- A READ whose entry was loaded, or is absent, brings nothing (R144). -/
theorem State.handRead_dropped {s : State} {i : Nat} {kept : Bool} (h : kept = false ∨ s.drivers.entryAt i = none)
    (p : Option ReadReport) : s.handRead i kept p = s := by
  unfold State.handRead
  cases he : s.drivers.entryAt i with
  | none => rfl
  | some e =>
    have hkept : kept = false := h.resolve_right (by simp [he])
    exact if_neg (by simp [hkept])

theorem State.handRead_taken {s : State} {i : Nat} {e : DriverEntry} (he : s.drivers.entryAt i = some e)
    (p : Option ReadReport) : s.handRead i true p = s.takeRead i e p := by
  rw [State.handRead, he]
  exact if_pos rfl

theorem State.takeRead_frame (s : State) (i : Nat) (e : DriverEntry) (p : Option ReadReport) :
    s.takeRead i e p =
      { s with
        thermal := (s.takeRead i e p).thermal
        events := (s.takeRead i e p).events
        zone := { s.zone with fault := (s.takeRead i e p).zone.fault } } := by
  cases p <;> rfl

/-- A READ touches the thermal record of its own driver alone (R143). -/
theorem State.takeRead_thermal_other (s : State) {i j : Nat} (hj : j ≠ i) (e : DriverEntry) (p : Option ReadReport) :
    (s.takeRead i e p).thermal.get .reset j = s.thermal.get .reset j := by
  cases p <;> exact (Store.get_set _ _ _ _ _).trans (if_neg hj)

theorem State.takeRead_thermal_valid (s : State) (i : Nat) (e : DriverEntry) (p : ReadReport) :
    (s.takeRead i e (some p)).thermal.get .reset i = (s.thermal.get .reset i).valid s.sup.derate p :=
  (Store.get_set _ _ _ _ _).trans (if_pos rfl)

theorem State.takeRead_thermal_invalid (s : State) (i : Nat) (e : DriverEntry) :
    (s.takeRead i e none).thermal.get .reset i = (s.thermal.get .reset i).invalid s.sup.derate :=
  (Store.get_set _ _ _ _ _).trans (if_pos rfl)

/-- A zone is marked when it was, or is one of those marked (R152). -/
theorem markFaults_iff {m : Store Bool} {zones : List Nat} {z : Nat} :
    (markFaults m zones).get false z = true ↔ m.get false z = true ∨ z ∈ zones := by
  induction zones generalizing m with
  | nil => simp [markFaults]
  | cons x rest ih =>
    rw [markFaults, ih, Store.get_set, List.mem_cons]
    by_cases hz : z = x <;> simp [hz]

/-- The zone that a fault entry inside the tile names (R152). -/
theorem faultZone_eq (cols : Nat) (t : Tile) (f : FaultEntry) :
    faultZone cols t f =
      if f.zone < t.width * t.height then
        some ((t.row + f.zone / t.width) * cols + (t.col + f.zone % t.width))
      else none := rfl

theorem State.takeRead_faulty {s : State} {i z : Nat} {e : DriverEntry} {p : ReadReport} :
    (s.takeRead i e (some p)).zone.faulty z = true ↔ s.zone.faulty z = true
      ∨ ∃ f ∈ p.faults, f.zone < e.tile.width * e.tile.height
        ∧ z = (e.tile.row + f.zone / e.tile.width) * s.zone.cols + (e.tile.col + f.zone % e.tile.width) := by
  refine markFaults_iff.trans (or_congr_right ?_)
  simp [faultZone_eq, eq_comm]

/-- A valid READ posts the move of the thermal state and each fault entry inside the tile (R149, R152). -/
theorem validPosts_eq (cols i : Nat) (e : DriverEntry) (r : ThermalRecord) (d : DerateSetting) (p : ReadReport) :
    validPosts cols i e r d p =
      ((alertMove r.state p.temp d.ta).2.toList.map fun k => ⟨k, some i, none, some p.temp⟩)
        ++ (p.faults.filter fun f => f.zone < e.tile.width * e.tile.height).map fun f =>
          ⟨if f.short then .zoneShort else .zoneOpen, some i,
            some ((e.tile.row + f.zone / e.tile.width) * cols + (e.tile.col + f.zone % e.tile.width)), none⟩ := by
  unfold validPosts
  refine congrArg₂ (· ++ ·) ?_ ?_
  · cases (alertMove r.state p.temp d.ta).2 <;> rfl
  · rw [← List.filterMap_eq_map, List.filterMap_filter]
    refine List.filterMap_congr fun f _ => ?_
    by_cases hf : f.zone < e.tile.width * e.tile.height <;> simp [faultZone_eq, hf]

/-- An invalid READ posts where it is the eighth in a row (R146). -/
theorem State.takeRead_events_invalid (s : State) (i : Nat) (e : DriverEntry) :
    (s.takeRead i e none).events =
      if (s.thermal.get .reset i).run + 1 = 8 then
        s.events.post s.banks.active.tag .thermalAlert (some i) none none
      else s.events := by
  show s.events.postAll _ (invalidPosts i _) = _
  unfold invalidPosts
  split <;> rfl

/-! ### What follows for the one that asked (R106, R116, R126) -/

theorem State.readFollows_withdrawn (s : State) (i : Nat) (asker : ReadAsker) : s.readFollows i asker false = s := by
  cases asker <;> rfl

/-- Settles O41: a READ dropped or taken, valid or invalid; then what follows for each asker. -/
theorem readEndingsUpdateTheThermalRecord : Obligations.ReadEndingsUpdateTheThermalRecord := by
  refine ⟨fun i addr resends asker claim kept wide status response s l hline hl => ?_,
    fun i asker s => ⟨s.readFollows_withdrawn i asker, rfl, rfl, rfl, rfl⟩⟩
  obtain rfl : l = s.link.finish wide := hl
  refine ⟨fun hdropped => ?_, fun e hkept he => ?_⟩
  · rw [exec_readEnding_eq hline, State.handRead_dropped (by exact hdropped)]
  · subst hkept
    refine ⟨State.takeRead { s with link := s.link.finish wide } i e (readReportOf status response), ?_,
      fun j hj => State.takeRead_thermal_other _ hj e _, State.takeRead_frame _ i e _, fun p hp => ?_,
      fun hinvalid => ?_⟩
    · rw [exec_readEnding_eq hline, State.handRead_taken (by exact he)]
    · rw [hp]
      refine ⟨State.takeRead_thermal_valid _ i e p, fun z => State.takeRead_faulty, ?_⟩
      rw [← validPosts_eq]
      rfl
    · rw [hinvalid]
      exact ⟨State.takeRead_thermal_invalid _ i e, rfl, State.takeRead_events_invalid _ i e⟩

end Sys2Proof.Machine

/-! ## SET LINK (O36) -/

namespace Sys2Proof.Machine

open Sys2Proof

theorem linkOf_eq (r m i : Byte) (rest : List Byte) :
    linkOf (r :: m :: i :: rest) =
      if r.toNat ≤ 1 ∧ m.toNat ≤ 1 ∧ 1 ≤ i.toNat ∧ i.toNat ≤ 15 then
        some ⟨if r = 0 then .mhz20 else .mhz10, if m = 0 then .quiet else .polled, i.toNat⟩
      else none := rfl

theorem exec_setLink_wrongState {p : List Byte} {k : LinkSetting} {s : State} (hk : linkOf p = some k)
    (h : ¬(k.rate = s.link.rate ∨ s.sup.op = .standby)) : exec (.setLink p) s = .next (s.result .wrongState) := by
  show execSetLink p s = _
  rw [execSetLink, hk]
  exact congrArg _ (if_neg h)

theorem exec_setLink_taken {p : List Byte} {k : LinkSetting} {s : State} (hk : linkOf p = some k)
    (h : k.rate = s.link.rate ∨ s.sup.op = .standby) :
    exec (.setLink p) s = .next (State.result .ok { s with link := s.link.configure k s.sup.op s.now }) := by
  show execSetLink p s = _
  rw [execSetLink, hk]
  exact congrArg _ (if_pos h)

/-- The poll timer starts in RUN where polled mode begins or the interval changes, and stands still in quiet mode
(R135). -/
theorem Link.pollAfter_eq (l : Link) (k : LinkSetting) (op : OpState) (now : Nat) :
    l.pollAfter k op now =
      if k.mode = .quiet then none
      else if op = .run ∧ (l.mode = .quiet ∨ l.pollInterval ≠ k.interval) then some now
      else l.pollTimer := by
  unfold Link.pollAfter
  cases k.mode <;> rfl

/-- Settles O36: parameters out of range, a rate that may not change, and the taken command. -/
theorem setLinkStoresAllThree : Obligations.SetLinkStoresAllThree := by
  rintro r m i rest s rate mode rfl rfl
  refine ⟨fun hrange => exec_setLink_refused (p := r :: m :: i :: rest) (if_neg hrange), fun hrange => ?_⟩
  have hk := (linkOf_eq r m i rest).trans (if_pos hrange)
  refine ⟨fun hrate hop => exec_setLink_wrongState hk (not_or.2 ⟨hrate, hop⟩), fun htaken => ?_⟩
  rw [exec_setLink_taken hk htaken, Link.configure, Link.pollAfter_eq]
  rfl

end Sys2Proof.Machine

/-! ## Attention windows and arbitrations (O38) -/

namespace Sys2Proof.Machine

open Sys2Proof

/-! ### Windows (R127, R137, R139, R141) -/

theorem Link.windows_iff {l : Link} :
    l.windows = true ↔ l.line = .idle ∧ l.resetGap = false ∧ l.lineMode = .quiet ∧ l.resend = none := by
  simp [Link.windows, and_assoc]

theorem exec_attentionStart_taken {s : State} (hwindows : s.link.windows = true)
    (hhold : s.link.attentionHold = false ∨ s.link.queue = []) :
    exec .attentionStart s = .next { s with link := { s.link with
      line := .arbitration, attentionHold := false, idlePeriods := nextWindow s.link.idlePeriods } } :=
  congrArg Host.Outcome.next (if_pos ⟨hwindows, hhold⟩)

theorem exec_attentionStart_dropped {s : State}
    (h : ¬(s.link.windows = true ∧ (s.link.attentionHold = false ∨ s.link.queue = []))) :
    exec .attentionStart s = .next s :=
  congrArg Host.Outcome.next (if_neg h)

/-- A window of an idle line keeps the hold only while messages wait (R139). -/
theorem exec_attentionWindow_taken {s : State} (h : s.link.line = .idle ∧ s.link.resetGap = false) :
    exec .attentionWindow s = .next { s with link := { s.link with
      attentionHold := if s.link.queue = [] then false else s.link.attentionHold
      idlePeriods := nextWindow s.link.idlePeriods } } := by
  have hhold : (s.link.attentionHold && !s.link.queue.isEmpty) =
      if s.link.queue = [] then false else s.link.attentionHold := by
    cases s.link.queue <;> simp
  rw [← hhold]
  exact congrArg Host.Outcome.next (if_pos h)

theorem exec_attentionWindow_dropped {s : State} (h : ¬(s.link.line = .idle ∧ s.link.resetGap = false)) :
    exec .attentionWindow s = .next s :=
  congrArg Host.Outcome.next (if_neg h)

/-! ### The end of an arbitration (R133, R138 to R140) -/

/-- The periods of an arbitration, inverted, are a priority and an address (R138). -/
theorem arbitrationAddress_eq (priority : BitVec 2) (addr : BitVec 6) :
    arbitrationAddress (~~~priority ++ ~~~addr) =
      if (priority = 2 ∨ priority = 1) ∧ addr.toNat ≠ 63 then some addr.toNat else none := by
  have hread : ~~~(~~~priority ++ ~~~addr) = priority ++ addr := by
    rw [BitVec.not_append, BitVec.not_not, BitVec.not_not]
  have hpriority : (~~~(~~~priority ++ ~~~addr)).extractLsb' 6 2 = priority := by
    rw [hread, BitVec.extractLsb'_append_eq_left]
  have haddr : (~~~(~~~priority ++ ~~~addr)).extractLsb' 0 6 = addr := by
    rw [hread, BitVec.extractLsb'_append_eq_right]
  unfold arbitrationAddress
  rw [hpriority, haddr]

theorem exec_arbitrationEnd_taken {sampled : BitVec 8} {wide : Bool} {s : State} {addr : Nat}
    (hline : s.link.line = .arbitration) (haddr : arbitrationAddress sampled = some addr) :
    exec (.arbitrationEnd sampled wide) s = .next
      { s with link :=
          ({ s.link.finish wide with attentionHold := true } : Link).attentionRequest s.sup.op s.drivers addr } := by
  show execArbitrationEnd sampled s wide = _
  rw [execArbitrationEnd, if_pos hline, haddr]

theorem exec_arbitrationEnd_void {sampled : BitVec 8} {wide : Bool} {s : State}
    (hline : s.link.line = .arbitration) (haddr : arbitrationAddress sampled = none) :
    exec (.arbitrationEnd sampled wide) s = .next
      { s with link := { s.link.finish wide with attentionHold := true } } := by
  show execArbitrationEnd sampled s wide = _
  rw [execArbitrationEnd, if_pos hline, haddr]

theorem exec_arbitrationEnd_dropped {sampled : BitVec 8} {wide : Bool} {s : State}
    (hline : s.link.line ≠ .arbitration) : exec (.arbitrationEnd sampled wide) s = .next s :=
  congrArg Host.Outcome.next (if_neg hline)

/-- Settles O38: windows with the hold and without, and an arbitration that is a request or void. -/
theorem attentionWindowsStartArbitrations : Obligations.AttentionWindowsStartArbitrations := by
  refine ⟨fun s => ⟨fun hline hgap hmode hresend => ⟨fun hhold => ?_, fun hhold hqueue => ?_⟩,
    fun hline hgap => ⟨_, exec_attentionWindow_taken ⟨hline, hgap⟩, rfl⟩, fun hclosed => ?_,
    exec_attentionWindow_dropped⟩, ?_⟩
  · exact ⟨_, exec_attentionStart_taken (Link.windows_iff.2 ⟨hline, hgap, hmode, hresend⟩) hhold, rfl⟩
  · refine exec_attentionStart_dropped fun ⟨_, hfree⟩ => ?_
    rcases hfree with hfree | hfree
    · exact absurd hhold (Bool.eq_false_iff.1 hfree)
    · exact hqueue hfree
  · exact exec_attentionStart_dropped fun ⟨hwindows, _⟩ => hclosed (Link.windows_iff.1 hwindows)
  · rintro priority addr wide s l rfl
    refine ⟨fun hline => ⟨fun hpriority hlt => ?_, fun hvoid => ?_⟩, exec_arbitrationEnd_dropped⟩
    · exact exec_arbitrationEnd_taken hline
        ((arbitrationAddress_eq priority addr).trans (if_pos ⟨hpriority, hlt.ne⟩))
    · refine exec_arbitrationEnd_void hline ((arbitrationAddress_eq priority addr).trans (if_neg ?_))
      rintro ⟨rfl | rfl, haddr⟩ <;> simp [haddr] at hvoid

end Sys2Proof.Machine

/-! ## Messages and arbitrations in sequence (O40) -/

namespace Sys2Proof.Machine

open Sys2Proof

/-! ### Fields, most significant bit first -/

@[simp] theorem length_toBits (width n : Nat) : (toBits width n).length = width := by simp [toBits]

theorem toBits_succ (width n : Nat) : toBits (width + 1) n = n.testBit width :: toBits width n := by
  simp [toBits, List.range_succ]

theorem ofBits_append (xs ys : List Bool) : ofBits (xs ++ ys) = ofBits xs * 2 ^ ys.length + ofBits ys := by
  induction ys using List.reverseRecOn with
  | nil => simp [ofBits]
  | append_singleton ys y ih =>
    have hsnoc (zs : List Bool) : ofBits (zs ++ [y]) = 2 * ofBits zs + y.toNat := by simp [ofBits]
    rw [← List.append_assoc, hsnoc, hsnoc, ih, List.length_append, List.length_singleton, pow_succ]
    ring

theorem ofBits_cons (b : Bool) (bits : List Bool) :
    ofBits (b :: bits) = b.toNat * 2 ^ bits.length + ofBits bits := by
  have hone : ofBits [b] = b.toNat := by simp [ofBits]
  rw [← hone]
  exact ofBits_append [b] bits

/-- A field holds its number modulo two to the number of its periods. -/
theorem ofBits_toBits (width n : Nat) : ofBits (toBits width n) = n % 2 ^ width := by
  induction width with
  | zero => simp [toBits, ofBits, Nat.mod_one]
  | succ width ih =>
    rw [toBits_succ, ofBits_cons, ih, length_toBits, Nat.toNat_testBit, pow_succ, Nat.mod_mul]
    ring

theorem ofBits_toBits_of_lt {width n : Nat} (h : n < 2 ^ width) : ofBits (toBits width n) = n := by
  rw [ofBits_toBits, Nat.mod_eq_of_lt h]

/-- A field depends on the bits inside its width alone. -/
theorem toBits_congr {width m n : Nat} (h : ∀ k < width, m.testBit k = n.testBit k) :
    toBits width m = toBits width n :=
  congrArg List.reverse (List.map_congr_left fun k hk => h k (List.mem_range.1 hk))

/-- A tag is sent epoch first (R185). -/
theorem toBits_tagByte (tag : Tag) : toBits 8 tag.byte.toNat = tag.epoch :: toBits 7 tag.count.toNat := by
  rw [toBits_succ]
  refine congrArg₂ List.cons ?_ (toBits_congr fun k hk => ?_)
  · rw [BitVec.testBit_toNat, Tag.byte, BitVec.getLsbD_append]
    simp
  · rw [BitVec.testBit_toNat, BitVec.testBit_toNat, Tag.byte, BitVec.getLsbD_append, if_pos hk]

theorem toBits_toNat {width : Nat} (v : BitVec width) :
    toBits width v.toNat = (List.range width).map fun k => v.getMsbD k := by
  refine List.ext_getElem (by simp) fun k hk _ => ?_
  have hlt : k < width := by simpa using hk
  simp [toBits, BitVec.getMsbD, BitVec.testBit_toNat, hlt]

/-! ### What a message sends (R121 to R123, R133, R188) -/

theorem Message.body_level (i addr : Nat) (tag : Tag) (codes : List Nat) :
    (Message.level i addr tag codes).body =
      toBits 3 0 ++ toBits 6 addr ++ tag.epoch :: toBits 7 tag.count.toNat ++ toBits 7 codes.length
        ++ codes.flatMap (toBits 10) := by
  rw [← toBits_tagByte]
  simp [Message.body, Message.kind, Message.linkKind, LinkKind.code]

theorem Message.body_latch (tag : Tag) (band : Nat) :
    (Message.latch tag band).body =
      toBits 3 1 ++ toBits 6 63 ++ tag.epoch :: toBits 7 tag.count.toNat ++ toBits 4 band := by
  rw [← toBits_tagByte]
  simp [Message.body, Message.kind, Message.linkKind, LinkKind.code]

theorem Message.body_config (i addr p c w h : Nat) (f : Bool) :
    (Message.config i addr p c w h f).body =
      toBits 3 3 ++ toBits 6 addr ++ toBits 4 p ++ toBits 8 c ++ toBits 4 (w - 1) ++ toBits 4 (h - 1) := by
  simp [Message.body, Message.kind, Message.linkKind, LinkKind.code]

theorem length_flatMap_toBits (width : Nat) (codes : List Nat) :
    (codes.flatMap (toBits width)).length = width * codes.length := by
  induction codes with
  | nil => rfl
  | cons c rest ih =>
    rw [List.flatMap_cons, List.length_append, length_toBits, ih, List.length_cons]
    ring

theorem Message.length_body_level (i addr : Nat) (tag : Tag) (codes : List Nat) :
    (Message.level i addr tag codes).body.length = 10 * codes.length + 24 := by
  simp only [Message.body_level, List.length_append, List.length_cons, length_toBits, length_flatMap_toBits]
  omega

theorem Message.length_body_latch (tag : Tag) (band : Nat) : (Message.latch tag band).body.length = 21 := by
  simp [Message.body_latch]

theorem Message.length_body_config (i addr p c w h : Nat) (f : Bool) :
    (Message.config i addr p c w h f).body.length = 29 := by
  simp [Message.body_config]

theorem Message.length_body_read (i addr : Nat) (asker : ReadAsker) :
    (Message.read i addr asker).body.length = 9 := by
  simp [Message.body]

theorem LinkMode.pulse_eq (mode : LinkMode) :
    mode.pulse = if mode = .quiet then [false, false] else [false, false, false] := by
  cases mode <;> rfl

/-- The periods of a READ response with so many fault entries, none where there is no response (R128). -/
def responsePeriods (response : Option Nat) : Nat := (response.map fun faults => 27 + 7 * faults).getD 0

theorem Message.sent_eq {m : Message} (h : m ≠ .poll) : m.sent = m.body ++ toBits 8 (checksumOf m.body) := by
  cases m with
  | poll => exact absurd rfl h
  | _ => rfl

theorem Message.sampled_eq {m : Message} (h : m ≠ .poll) (response : Option Nat) :
    m.sampled response = 3 + responsePeriods response := by
  cases m with
  | poll => exact absurd rfl h
  | _ => cases response <;> rfl

/-- A message but a POLL: its body and checksum, then the periods it samples (R121, R123). -/
theorem Message.driven_eq {m : Message} (h : m ≠ .poll) (stop : LinkMode) (response : Option Nat) :
    m.driven stop response =
      [false, false, false, false] ++ m.body ++ toBits 8 (checksumOf m.body) ++ [true, true, true]
        ++ List.replicate (responsePeriods response) true ++ stop.pulse := by
  rw [Message.driven, Message.sent_eq h, Message.sampled_eq h, List.replicate_add]
  simp [startPulse]

/-- How long a message but a POLL is: its body, its response, its stop pulse and 17 periods more (R122). -/
theorem Message.periods_eq {m : Message} (h : m ≠ .poll) (stop : LinkMode) (response : Option Nat) :
    m.periods stop response = m.body.length + responsePeriods response + stop.stopPulse + 17 := by
  rw [Message.periods, Message.driven_eq h]
  simp only [LinkMode.pulse, List.length_append, List.length_cons, List.length_nil, List.length_replicate,
    length_toBits]
  omega

/-- Both lengths of a message to which nothing is answered (R122). -/
theorem Message.periods_unanswered {m : Message} {n : Nat} (hbody : m.body.length = n) (h : m ≠ .poll) :
    m.periods .quiet none = n + 19 ∧ m.periods .polled none = n + 20 := by
  rw [Message.periods_eq h, Message.periods_eq h, hbody]
  exact ⟨rfl, rfl⟩

/-- Both lengths of a message that is answered by a response with fault entries (R122, R128). -/
theorem Message.periods_answered {m : Message} {n : Nat} (hbody : m.body.length = n) (h : m ≠ .poll) (faults : Nat) :
    m.periods .quiet (some faults) = n + (27 + 7 * faults) + 19
      ∧ m.periods .polled (some faults) = n + (27 + 7 * faults) + 20 := by
  rw [Message.periods_eq h, Message.periods_eq h, hbody]
  exact ⟨rfl, rfl⟩

/-! ### An arbitration in sequence (R138) -/

theorem arbitrationDriven_eq (stop : LinkMode) :
    arbitrationDriven stop = [true, false, false, false, true, true, true] ++ List.replicate 8 true ++ stop.pulse :=
  rfl

theorem arbitrationLine_eq (sampled : BitVec 8) (stop : LinkMode) :
    arbitrationLine sampled stop =
      [false, false, false, false, true, true, true] ++ ((List.range 8).map fun k => sampled.getMsbD k)
        ++ stop.pulse := by
  rw [arbitrationLine, toBits_toNat]
  rfl

/-- What is driven low reads low: the one thing that a driven period says of the line. -/
def LowReadsLow (driven read : Bool) : Prop := driven = false → read = false

/-- A released period may read either way. -/
theorem released_lowReadsLow (read : List Bool) :
    List.Forall₂ LowReadsLow (List.replicate read.length true) read := by
  induction read with
  | nil => exact .nil
  | cons _ _ ih => exact .cons nofun ih

/-- The line reads low wherever the JD2560 drives it low; the driver's own first period may read lower. -/
theorem arbitrationLine_low (sampled : BitVec 8) (stop : LinkMode) :
    List.Forall₂ LowReadsLow (arbitrationDriven stop) (arbitrationLine sampled stop) := by
  have hpulse : List.Forall₂ LowReadsLow stop.pulse stop.pulse := List.forall₂_same.2 fun _ _ => id
  have hhead : List.Forall₂ LowReadsLow [true, false, false, false, true, true, true]
      [false, false, false, false, true, true, true] := by
    simp [LowReadsLow]
  have hsampled : List.Forall₂ LowReadsLow (List.replicate 8 true)
      ((List.range 8).map fun k => sampled.getMsbD k) :=
    released_lowReadsLow ((List.range 8).map fun k => sampled.getMsbD k)
  rw [arbitrationDriven_eq, arbitrationLine_eq]
  exact List.rel_append (List.rel_append hhead hsampled) hpulse

theorem getElem?_low {driven read : List Bool} (h : List.Forall₂ LowReadsLow driven read) {k : Nat}
    (hk : driven[k]? = some false) : read[k]? = some false := by
  induction h generalizing k with
  | nil => cases hk
  | cons hfirst _ ih =>
    cases k with
    | zero =>
      obtain rfl : _ = false := Option.some.inj hk
      exact congrArg some (hfirst rfl)
    | succ k => exact ih hk

/-- Settles O40: the lengths from the bodies' own, each message kind in sequence, and the arbitration. -/
theorem messagesRunInSequence : Obligations.MessagesRunInSequence := by
  refine ⟨⟨fun _ => rfl, rfl, fun i addr tag codes => ?_,
      fun tag band => Message.periods_unanswered (Message.length_body_latch tag band) nofun, rfl, rfl,
      fun i addr p c w h f => Message.periods_unanswered (Message.length_body_config i addr p c w h f) nofun,
      fun i addr faults asker => ?_, rfl, rfl, rfl, rfl⟩,
    ⟨fun width n h => ⟨length_toBits width n, ofBits_toBits_of_lt h⟩, ?_⟩, ?_⟩
  · obtain ⟨hquiet, hpolled⟩ := Message.periods_unanswered (Message.length_body_level i addr tag codes) nofun
    omega
  · have hbody := Message.length_body_read i addr asker
    obtain ⟨hquiet, hpolled⟩ := Message.periods_answered hbody nofun faults
    obtain ⟨hquiet', hpolled'⟩ := Message.periods_unanswered hbody nofun
    omega
  · rintro m stop response body pulse rfl hlevel hlatch hblank hconfig hread hpoll
    have hbody : m.body = body := by
      cases m with
      | level i addr tag codes => rw [hlevel _ _ _ _ rfl, Message.body_level]
      | latch tag band => rw [hlatch _ _ rfl, Message.body_latch]
      | blank => exact (hblank rfl).symm
      | config i addr p c w h f => rw [hconfig _ _ _ _ _ _ _ rfl, Message.body_config]
      | read i addr asker => exact (hread _ _ _ rfl).symm
      | poll => exact (hpoll rfl).symm
    rw [← LinkMode.pulse_eq, ← hbody]
    refine ⟨fun hm => ?_, ?_⟩
    · rw [Message.driven_eq hm]
      cases response <;> rfl
    · rintro rfl
      rfl
  · rintro sampled stop pulse rfl
    rw [← LinkMode.pulse_eq]
    exact ⟨arbitrationDriven_eq stop, arbitrationLine_eq sampled stop,
      fun k => getElem?_low (arbitrationLine_low sampled stop)⟩

end Sys2Proof.Machine

/-! ## What the line brings, read back (O39) -/

namespace Sys2Proof.Machine

open Sys2Proof

/-! ### Groups and checksum (R123) -/

/-- A field of periods is the number of its bits. -/
theorem foldl_eq_ofBits {α : Type} (bit : α → Bool) (xs : List α) :
    xs.foldl (fun v x => 2 * v + (bit x).toNat) 0 = ofBits (xs.map bit) := by
  rw [ofBits, List.foldl_map]

/-- The periods of group `g`, the last group padded with 0 (R123). -/
def groupBits (bits : List Bool) (g : Nat) : List Bool := (List.range 8).map fun k => bits.getD (8 * g + k) false

theorem groupSum_eq_sum (bits : List Bool) :
    groupSum bits = ((List.range ((bits.length + 7) / 8)).map fun g => ofBits (groupBits bits g)).sum := by
  rw [List.sum_eq_foldl_nat, List.foldl_map]
  simp only [groupSum, foldl_eq_ofBits (fun k => bits.getD (8 * _ + k) false)]
  rfl

/-- A group of its own, then the groups of what follows. -/
theorem groupSum_append {first : List Bool} (hfirst : first.length = 8) (rest : List Bool) :
    groupSum (first ++ rest) = ofBits first + groupSum rest := by
  have hcount : ((first ++ rest).length + 7) / 8 = (rest.length + 7) / 8 + 1 := by
    rw [List.length_append, hfirst]
    omega
  have hhead : groupBits (first ++ rest) 0 = first := by
    refine List.ext_getElem (by simp [groupBits, hfirst]) fun k _ hk => ?_
    simp [groupBits, List.getElem?_append_left hk, hk]
  have htail (g : Nat) : groupBits (first ++ rest) (g + 1) = groupBits rest g := by
    refine List.map_congr_left fun k _ => ?_
    rw [List.getD_append_right _ _ _ _ (by omega), hfirst]
    congr 1
    omega
  rw [groupSum_eq_sum, groupSum_eq_sum, hcount, List.range_succ_eq_map, List.map_cons, List.sum_cons, hhead,
    List.map_map]
  simp only [Function.comp_def, Nat.succ_eq_add_one, htail]

theorem ofBits_replicate_false (n : Nat) : ofBits (List.replicate n false) = 0 := by
  induction n with
  | zero => rfl
  | succ n ih => rw [List.replicate_succ, ofBits_cons, ih, Bool.toNat_false, Nat.zero_mul]

/-- A last group of fewer than eight periods stands in the high positions. -/
theorem groupSum_short {bits : List Bool} (h : bits.length < 8) :
    groupSum bits = ofBits bits * 2 ^ (8 - bits.length) := by
  obtain rfl | hne := eq_or_ne bits []
  · rfl
  have hcount : (bits.length + 7) / 8 = 1 := by
    have := List.length_pos_iff.2 hne
    omega
  have hpadded : groupBits bits 0 = bits ++ List.replicate (8 - bits.length) false := by
    refine List.ext_getElem (by simp [groupBits]; omega) fun k _ _ => ?_
    by_cases hk : k < bits.length <;> simp [groupBits, List.getElem_append, hk]
  rw [groupSum_eq_sum, hcount, List.range_one, List.map_singleton, List.sum_singleton, hpadded, ofBits_append,
    ofBits_replicate_false, List.length_replicate, Nat.add_zero]

theorem checksumOf_lt (bits : List Bool) : checksumOf bits < 256 := Nat.mod_lt _ (by decide)

/-- A run of periods and its checksum sum to 0 (R123). -/
theorem groupSum_add_checksumOf (bits : List Bool) : (groupSum bits + checksumOf bits) % 256 = 0 := by
  unfold checksumOf
  omega

/-! ### The report of a READ ending (R128, R129) -/

theorem periodsField_eq (bits : List Bool) (start width : Nat) :
    periodsField bits start width = ofBits ((List.range width).map fun k => bits.getD (start + k) true) :=
  foldl_eq_ofBits (fun k => bits.getD (start + k) true) _

theorem ofBits_lt (bits : List Bool) : ofBits bits < 2 ^ bits.length := by
  induction bits with
  | nil => decide
  | cons b rest ih =>
    rw [ofBits_cons, List.length_cons, pow_succ]
    cases b <;> simp only [Bool.toNat_false, Bool.toNat_true] <;> omega

theorem periodsField_lt (bits : List Bool) (start width : Nat) : periodsField bits start width < 2 ^ width := by
  rw [periodsField_eq]
  exact (ofBits_lt _).trans_eq (by simp)

theorem periodsField_one (bits : List Bool) (start : Nat) :
    decide (periodsField bits start 1 = 1) = bits.getD start true := by
  have hrun : ((List.range 1).map fun k => bits.getD (start + k) true) = [bits.getD start true] := rfl
  rw [periodsField_eq, hrun]
  cases bits.getD start true <;> rfl

theorem causeOf_eq_none {code : Nat} : causeOf code = none ↔ 3 ≤ code := by
  rcases code with _ | _ | _ | code <;> simp [causeOf]

theorem causeOf_eq_some {code : Nat} {c : Cause} (h : causeOf code = some c) :
    c = if code = 0 then .none else if code = 1 then .thermal else .fault := by
  rcases code with _ | _ | _ | code
  · exact (Option.some.inj h).symm
  · exact (Option.some.inj h).symm
  · exact (Option.some.inj h).symm
  · cases h

theorem causeOf_code (c : Cause) : causeOf c.code = some c := by cases c <;> rfl

/-- What a response must be for its ending to be valid, its cause code apart (R129). -/
def ValidResponse (status : LinkStatus) (bits : List Bool) : Prop :=
  endingOf status = .accept ∧ periodsField bits 0 2 = 0
    ∧ (groupSum (responseBody bits) + periodsField bits (19 + 7 * clockedFaults bits) 8) % 256 = 0
    ∧ periodsField bits 2 8 ≤ 190 ∧ periodsField bits 12 7 ≤ 64

/-- The fault entries that a response carries (R128). -/
def faultsRead (bits : List Bool) : List FaultEntry :=
  (List.range (clockedFaults bits)).map fun k =>
    ⟨periodsField bits (19 + 7 * k) 6, periodsField bits (25 + 7 * k) 1 = 1⟩

theorem faultsRead_eq (bits : List Bool) :
    faultsRead bits = (List.range (clockedFaults bits)).map fun k =>
      ⟨periodsField bits (19 + 7 * k) 6, bits.getD (25 + 7 * k) true⟩ := by
  simp only [faultsRead, periodsField_one]

/-- A valid ending carries the temperature, the cause and the fault entries of its response (R129). -/
theorem readReportOf_eq_some {status : LinkStatus} {bits : List Bool} {p : ReadReport} :
    readReportOf status bits = some p ↔
      ValidResponse status bits ∧ p.temp = (periodsField bits 2 8 : Int) - 40
        ∧ causeOf (periodsField bits 10 2) = some p.cause ∧ p.faults = faultsRead bits := by
  unfold readReportOf
  cases hcause : causeOf (periodsField bits 10 2) with
  | none => simp
  | some c =>
    by_cases hvalid : ValidResponse status bits
    · rw [iff_true_intro hvalid, true_and]
      refine (congrArg (· = some p) (if_pos hvalid)).to_iff.trans ?_
      cases p
      simp only [Option.some.injEq, ReadReport.mk.injEq]
      exact ⟨fun ⟨ht, hc, hf⟩ => ⟨ht.symm, hc, hf.symm⟩, fun ⟨ht, hc, hf⟩ => ⟨ht.symm, hc, hf.symm⟩⟩
    · refine (congrArg (· = some p) (if_neg hvalid)).to_iff.trans ?_
      simp [hvalid]

theorem exists_readReportOf_iff {status : LinkStatus} {bits : List Bool} :
    (∃ p, readReportOf status bits = some p) ↔ ValidResponse status bits ∧ periodsField bits 10 2 ≠ 3 := by
  have hlt : periodsField bits 10 2 < 4 := periodsField_lt bits 10 2
  refine ⟨fun ⟨p, hp⟩ => ?_, fun ⟨hvalid, hne⟩ => ?_⟩
  · obtain ⟨hvalid, -, hcause, -⟩ := readReportOf_eq_some.1 hp
    refine ⟨hvalid, fun h => ?_⟩
    rw [h] at hcause
    cases hcause
  · cases hcause : causeOf (periodsField bits 10 2) with
    | none => exact absurd (causeOf_eq_none.1 hcause) (by omega)
    | some c => exact ⟨⟨_, c, _⟩, readReportOf_eq_some.2 ⟨hvalid, rfl, hcause, rfl⟩⟩

/-- An ending is invalid where one of its conditions fails or its cause code is '11' (R129). -/
theorem readReportOf_eq_none {status : LinkStatus} {bits : List Bool} :
    readReportOf status bits = none ↔ ¬ValidResponse status bits ∨ periodsField bits 10 2 = 3 := by
  rw [Option.eq_none_iff_forall_ne_some, ← not_exists, exists_readReportOf_iff, not_and_or, not_not]

/-! ### A driver's response (R128, R188) -/

/-- The periods of a run in the middle of others. -/
theorem map_getD_middle (before run after : List Bool) (d : Bool) :
    ((List.range run.length).map fun k => (before ++ (run ++ after)).getD (before.length + k) d) = run := by
  refine List.ext_getElem (by simp) fun k _ hk => ?_
  simp [List.getElem?_append_right, List.getElem?_append_left hk, hk]

/-- A number sent is read back where it stands. -/
theorem periodsField_toBits {width n start : Nat} {before : List Bool} (hstart : before.length = start)
    (hn : n < 2 ^ width) (after : List Bool) :
    periodsField (before ++ (toBits width n ++ after)) start width = n := by
  have hread := map_getD_middle before (toBits width n) after true
  rw [length_toBits, hstart] at hread
  rw [periodsField_eq, hread, ofBits_toBits_of_lt hn]

/-- The periods of a fault entry (R188). -/
def FaultEntry.bits (f : FaultEntry) : List Bool := toBits 6 f.zone ++ [f.short]

@[simp] theorem FaultEntry.length_bits (f : FaultEntry) : f.bits.length = 7 := by simp [FaultEntry.bits]

theorem length_flatMap_bits (faults : List FaultEntry) :
    (faults.flatMap FaultEntry.bits).length = 7 * faults.length := by
  induction faults with
  | nil => rfl
  | cons f rest ih =>
    rw [List.flatMap_cons, List.length_append, f.length_bits, ih, List.length_cons]
    ring

/-- Fault entries sent one after the other are read back. -/
theorem faults_read_back {faults : List FaultEntry} (hzone : ∀ f ∈ faults, f.zone < 64) (before after : List Bool)
    {start : Nat} (hstart : before.length = start) :
    ((List.range faults.length).map fun k =>
      (⟨periodsField (before ++ (faults.flatMap FaultEntry.bits ++ after)) (start + 7 * k) 6,
        (before ++ (faults.flatMap FaultEntry.bits ++ after)).getD (start + 6 + 7 * k) true⟩ : FaultEntry)) =
      faults := by
  induction faults generalizing before start with
  | nil => rfl
  | cons f rest ih =>
    have hrest := ih (fun g hg => hzone g (List.mem_cons_of_mem f hg)) (before ++ f.bits) (start := start + 7)
      (by simp [hstart])
    have hrun : before ++ ((f :: rest).flatMap FaultEntry.bits ++ after) =
        before ++ f.bits ++ (rest.flatMap FaultEntry.bits ++ after) := by
      simp
    have hfirst : before ++ f.bits ++ (rest.flatMap FaultEntry.bits ++ after) =
        before ++ (toBits 6 f.zone ++ ([f.short] ++ (rest.flatMap FaultEntry.bits ++ after))) := by
      simp [FaultEntry.bits]
    have hread : periodsField (before ++ f.bits ++ (rest.flatMap FaultEntry.bits ++ after)) start 6 = f.zone := by
      rw [hfirst]
      exact periodsField_toBits hstart (hzone f List.mem_cons_self) _
    have hshort : (before ++ f.bits ++ (rest.flatMap FaultEntry.bits ++ after)).getD (start + 6) true = f.short := by
      subst hstart
      rw [hfirst]
      simp
    rw [hrun, List.length_cons, List.range_succ_eq_map, List.map_cons, List.map_map]
    refine congrArg₂ List.cons ?_ (Eq.trans ?_ hrest)
    · rw [Nat.mul_zero, Nat.add_zero, Nat.add_zero, hread, hshort]
    · refine List.map_congr_left fun k _ => ?_
      simp only [Function.comp_apply, Nat.succ_eq_add_one, Nat.mul_add, Nat.mul_one]
      congr 2 <;> omega

/-- The periods that the checksum of a response covers (R128). -/
def ReadReport.body (p : ReadReport) : List Bool :=
  toBits 2 0 ++ toBits 8 (p.temp + 40).toNat ++ toBits 2 p.cause.code ++ toBits 7 p.faults.length
    ++ p.faults.flatMap FaultEntry.bits

theorem ReadReport.response_eq (p : ReadReport) : p.response = p.body ++ toBits 8 (checksumOf p.body) := rfl

theorem ReadReport.length_body (p : ReadReport) : p.body.length = 19 + 7 * p.faults.length := by
  simp only [ReadReport.body, List.length_append, length_toBits, length_flatMap_bits]

/-- A report that a driver can send (R128, R188). -/
structure ReadReport.Sendable (p : ReadReport) : Prop where
  coldest : -40 ≤ p.temp
  hottest : p.temp ≤ 150
  count : p.faults.length ≤ 64
  zones : ∀ f ∈ p.faults, f.zone < 64

theorem ReadReport.response_append (p : ReadReport) (tail : List Bool) :
    p.response ++ tail =
      toBits 2 0 ++ (toBits 8 (p.temp + 40).toNat ++ (toBits 2 p.cause.code ++ (toBits 7 p.faults.length
        ++ (p.faults.flatMap FaultEntry.bits ++ (toBits 8 (checksumOf p.body) ++ tail))))) := by
  simp only [ReadReport.response_eq, ReadReport.body, List.append_assoc]

theorem ReadReport.response_status (p : ReadReport) (tail : List Bool) :
    periodsField (p.response ++ tail) 0 2 = 0 := by
  rw [p.response_append]
  exact periodsField_toBits (before := []) rfl (Nat.two_pow_pos 2) _

theorem ReadReport.response_cause (p : ReadReport) (tail : List Bool) :
    periodsField (p.response ++ tail) 10 2 = p.cause.code := by
  rw [p.response_append, ← List.append_assoc]
  exact periodsField_toBits (by simp) (by cases p.cause <;> decide) _

theorem ReadReport.response_checksum (p : ReadReport) (tail : List Bool) :
    periodsField (p.response ++ tail) (19 + 7 * p.faults.length) 8 = checksumOf p.body := by
  rw [p.response_eq, List.append_assoc]
  exact periodsField_toBits p.length_body (checksumOf_lt _) _

section
variable {p : ReadReport} (h : p.Sendable) (tail : List Bool)
include h

theorem ReadReport.response_temp : periodsField (p.response ++ tail) 2 8 = (p.temp + 40).toNat := by
  have hhottest := h.hottest
  rw [p.response_append]
  exact periodsField_toBits rfl (by omega) _

theorem ReadReport.response_count : periodsField (p.response ++ tail) 12 7 = p.faults.length := by
  have hcount := h.count
  rw [p.response_append, ← List.append_assoc, ← List.append_assoc]
  exact periodsField_toBits (by simp) (by omega) _

theorem ReadReport.response_clocked : clockedFaults (p.response ++ tail) = p.faults.length := by
  rw [clockedFaults, ReadReport.response_count h, Nat.min_eq_right h.count]

theorem ReadReport.response_faults : faultsRead (p.response ++ tail) = p.faults := by
  rw [faultsRead_eq, ReadReport.response_clocked h, p.response_append, ← List.append_assoc, ← List.append_assoc,
    ← List.append_assoc]
  exact faults_read_back h.zones _ _ (by simp)

theorem ReadReport.response_body : responseBody (p.response ++ tail) = p.body := by
  rw [responseBody, ReadReport.response_clocked h, ← p.length_body, p.response_eq, List.append_assoc]
  simpa using map_getD_middle [] p.body (toBits 8 (checksumOf p.body) ++ tail) true

theorem ReadReport.validResponse {status : LinkStatus} (haccept : endingOf status = .accept) :
    ValidResponse status (p.response ++ tail) := by
  have hcoldest := h.coldest
  have hhottest := h.hottest
  refine ⟨haccept, p.response_status tail, ?_, ?_, ?_⟩
  · rw [ReadReport.response_body h, ReadReport.response_clocked h, p.response_checksum]
    exact groupSum_add_checksumOf p.body
  · rw [ReadReport.response_temp h]
    omega
  · rw [ReadReport.response_count h]
    exact h.count

/-- After ACCEPT a driver's report is read back whole (R128, R129). -/
theorem ReadReport.read_back {status : LinkStatus} (haccept : endingOf status = .accept) :
    readReportOf status (p.response ++ tail) = some p := by
  have hcoldest := h.coldest
  refine readReportOf_eq_some.2 ⟨ReadReport.validResponse h tail haccept, ?_, ?_,
    (ReadReport.response_faults h tail).symm⟩
  · rw [ReadReport.response_temp h]
    omega
  · rw [p.response_cause]
    exact causeOf_code p.cause

end

theorem endingOf_append (a b : Bool) :
    endingOf ⟨true, BitVec.ofBool a ++ BitVec.ofBool b⟩ =
      if a then (if b then .noResponse else .checksumError) else (if b then .busy else .accept) := by
  cases a <;> cases b <;> rfl

/-- Settles O39: groups and checksum, status endings, what is invalid, and a response read back. -/
theorem linkFieldsAreReadBack : Obligations.LinkFieldsAreReadBack := by
  refine ⟨⟨fun a b c d e f g h rest => ?_, fun bits => groupSum_short,
      fun bits => ⟨groupSum_add_checksumOf bits, checksumOf_lt bits⟩⟩,
    fun a b => ⟨rfl, endingOf_append a b⟩, ?_, ?_⟩
  · rw [show a :: b :: c :: d :: e :: f :: g :: h :: rest = [a, b, c, d, e, f, g, h] ++ rest from rfl,
      groupSum_append rfl]
    simp only [ofBits, List.foldl_cons, List.foldl_nil]
    omega
  · rintro status bits field clocked hfield rfl
    obtain rfl : field = periodsField bits :=
      funext fun first => funext fun width => (hfield first width).trans (periodsField_eq bits first width).symm
    refine ⟨readReportOf_eq_none.trans ?_, fun p hp => ?_⟩
    · simp only [ValidResponse, responseBody, clockedFaults, not_and_or, not_le]
      tauto
    · obtain ⟨-, htemp, hcause, hfaults⟩ := readReportOf_eq_some.1 hp
      exact ⟨htemp, causeOf_eq_some hcause, hfaults.trans (faultsRead_eq bits)⟩
  · intro p status tail hcoldest hhottest hcount hzones
    refine ⟨ReadReport.read_back ⟨hcoldest, hhottest, hcount, hzones⟩ tail,
      fun hending => readReportOf_eq_none.2 (.inl fun hvalid => ?_)⟩
    obtain ⟨haccept, -⟩ := hvalid
    exact hending haccept

end Sys2Proof.Machine

/-! ## Posts and POP EVENT (O43) -/

namespace Sys2Proof.Machine

open Sys2Proof

/-! ### A post (R154, R155) -/

theorem EventRecord.isFor_iff {r : EventRecord} {k : EventKind} {driver zone : Option Nat} :
    r.isFor k driver zone = true ↔ r.kind = k ∧ r.driver = driver ∧ r.zone = zone := by
  simp [EventRecord.isFor, and_assoc]

/-- Two records that no post matches both: they differ in kind, driver or zone (R154). -/
def EventRecord.Apart (a b : EventRecord) : Prop := ¬(a.kind = b.kind ∧ a.driver = b.driver ∧ a.zone = b.zone)

/-- A record into which a post of this value has coalesced (R154). -/
def EventRecord.coalesce (value : Option Int) (r : EventRecord) : EventRecord :=
  { r with count := min 255 (r.count + 1), value := value }

/-- What a queue's post makes of a record that it holds (R154). -/
def EventRecord.afterPost (k : EventKind) (driver zone : Option Nat) (value : Option Int) (r : EventRecord) :
    EventRecord :=
  if r.isFor k driver zone then r.coalesce value else r

/-- Coalescing leaves what a post is matched on (R154). -/
theorem EventRecord.afterPost_apart {k : EventKind} {driver zone : Option Nat} {value : Option Int}
    {a b : EventRecord} (h : a.Apart b) :
    (a.afterPost k driver zone value).Apart (b.afterPost k driver zone value) := by
  have key (r : EventRecord) : (r.afterPost k driver zone value).kind = r.kind
      ∧ (r.afterPost k driver zone value).driver = r.driver ∧ (r.afterPost k driver zone value).zone = r.zone := by
    unfold EventRecord.afterPost
    split <;> exact ⟨rfl, rfl, rfl⟩
  simpa [EventRecord.Apart, key] using h

section

variable {q : EventQueue} {t : Tag} {k : EventKind} {driver zone : Option Nat} {value : Option Int}

theorem EventQueue.post_matched (h : ∃ r ∈ q.records, r.isFor k driver zone = true) :
    q.post t k driver zone value = { q with records := q.records.map (·.afterPost k driver zone value) } :=
  if_pos (List.any_eq_true.2 h)

theorem EventQueue.post_unmatched (h : ∀ r ∈ q.records, ¬r.isFor k driver zone = true) :
    q.post t k driver zone value =
      if q.records.length < 32 then { q with records := q.records ++ [⟨k, driver, zone, value, 1, t⟩] }
      else { q with overflow := true } :=
  if_neg fun hany => by
    obtain ⟨r, hr, hfor⟩ := List.any_eq_true.1 hany
    exact h r hr hfor

/-- A post coalesces, is added at the tail, or is dropped (R154, R155). -/
theorem EventQueue.post_cases (q : EventQueue) (t : Tag) (k : EventKind) (driver zone : Option Nat)
    (value : Option Int) :
    (q.post t k driver zone value).records = q.records.map (·.afterPost k driver zone value)
      ∨ ((∀ r ∈ q.records, ¬r.isFor k driver zone = true) ∧ q.records.length < 32
        ∧ (q.post t k driver zone value).records = q.records ++ [⟨k, driver, zone, value, 1, t⟩])
      ∨ (q.post t k driver zone value).records = q.records := by
  by_cases hm : ∃ r ∈ q.records, r.isFor k driver zone = true
  · rw [EventQueue.post_matched hm]
    exact .inl rfl
  · have hnone : ∀ r ∈ q.records, ¬r.isFor k driver zone = true := by simpa using hm
    rw [EventQueue.post_unmatched hnone]
    split
    · next hlen => exact .inr (.inl ⟨hnone, hlen, rfl⟩)
    · exact .inr (.inr rfl)

theorem EventQueue.length_post_le (h : q.records.length ≤ 32) :
    (q.post t k driver zone value).records.length ≤ 32 := by
  rcases q.post_cases t k driver zone value with hr | ⟨_, hlen, hr⟩ | hr <;> rw [hr]
  · simpa using h
  · simpa using hlen
  · exact h

theorem EventQueue.pairwise_post (h : q.records.Pairwise EventRecord.Apart) :
    (q.post t k driver zone value).records.Pairwise EventRecord.Apart := by
  rcases q.post_cases t k driver zone value with hr | ⟨hnone, _, hr⟩ | hr <;> rw [hr]
  · exact List.pairwise_map.2 (h.imp EventRecord.afterPost_apart)
  · refine List.pairwise_append.2 ⟨h, List.pairwise_singleton _ _, fun a ha b hb => ?_⟩
    obtain rfl := List.mem_singleton.1 hb
    exact fun hkey => hnone a ha (EventRecord.isFor_iff.2 hkey)
  · exact h

/-- A post that one record alone matches coalesces into that record (R154). -/
theorem EventQueue.post_coalesces {before after : List EventRecord} {r : EventRecord}
    (hq : q.records = before ++ r :: after) (hr : r.isFor k driver zone = true)
    (hothers : ∀ x ∈ before ++ after, ¬x.isFor k driver zone = true) :
    q.post t k driver zone value = { q with records := before ++ r.coalesce value :: after } := by
  have same (l : List EventRecord) (hl : ∀ x ∈ l, x ∈ before ++ after) :
      l.map (·.afterPost k driver zone value) = l :=
    (List.map_congr_left fun x hx => if_neg (hothers x (hl x hx))).trans l.map_id
  rw [EventQueue.post_matched ⟨r, by simp [hq], hr⟩, hq, List.map_append, List.map_cons,
    same before fun x => List.mem_append_left _, same after fun x => List.mem_append_right _,
    show r.afterPost k driver zone value = r.coalesce value from if_pos hr]

end

/-! ### POP EVENT (R156, R174) -/

theorem exec_popEvent_eq (params : List Byte) (s : State) :
    exec (.popEvent params) s = .next
      (State.fixRecord (.event s.events.records.head?)
        { s with events := { s.events with records := s.events.records.tail } }) := rfl

theorem exec_popEvent_empty {s : State} (params : List Byte) (h : s.events.records = []) :
    exec (.popEvent params) s = .next (s.fixRecord (.event none)) := by
  have hsame : ({ s.events with records := [] } : EventQueue) = s.events := by rw [← h]
  rw [exec_popEvent_eq, h, List.tail_nil, hsame]
  rfl

/-- Settles O43: a post that a record matches, one that none matches, what every post keeps, and POP EVENT. -/
theorem postsCoalesceAreAddedOrDropped : Obligations.PostsCoalesceAreAddedOrDropped := by
  refine ⟨fun q tag k driver zone value => ⟨fun more => ⟨rfl, rfl⟩,
    fun before r after hq hk hd hz hothers => ?_, fun hnone => ?_, EventQueue.length_post_le, EventQueue.pairwise_post⟩,
    fun params s => ⟨exec_popEvent_empty params, fun r rest hq => ?_⟩⟩
  · exact EventQueue.post_coalesces hq (EventRecord.isFor_iff.2 ⟨hk, hd, hz⟩) fun x hx =>
      EventRecord.isFor_iff.not.2 (hothers x hx)
  · have hpost := EventQueue.post_unmatched (t := tag) (value := value)
      fun x hx => EventRecord.isFor_iff.not.2 (hnone x hx)
    exact ⟨fun hlen => hpost.trans (if_pos hlen), fun hlen => hpost.trans (if_neg (Nat.not_lt.2 hlen))⟩
  · rw [exec_popEvent_eq, hq]
    rfl

end Sys2Proof.Machine

/-! ## The event queue over every step (O60) -/

namespace Sys2Proof.Machine

open Sys2Proof

/-! ### A queue in its bounds (R153, R154) -/

/-- A queue of at most 32 records, no two that one post matches, each counted 1..255 (R153, R154). -/
structure EventQueue.Sound (q : EventQueue) : Prop where
  length : q.records.length ≤ 32
  apart : q.records.Pairwise EventRecord.Apart
  counted : ∀ r ∈ q.records, 1 ≤ r.count ∧ r.count ≤ 255

theorem eventInv_iff {s : State} : EventInv s ↔ s.events.Sound :=
  ⟨fun ⟨hlen, hapart, hcount⟩ => ⟨hlen, hapart, hcount⟩, fun h => ⟨h.length, h.apart, h.counted⟩⟩

namespace EventQueue.Sound

theorem empty (overflow : Bool) : (⟨[], overflow⟩ : EventQueue).Sound := ⟨by simp, .nil, by simp⟩

/-- EVENT-OVERFLOW does not bear on it (R155). -/
theorem withOverflow {q : EventQueue} (h : q.Sound) (overflow : Bool) : ({ q with overflow := overflow }).Sound :=
  ⟨h.length, h.apart, h.counted⟩

/-- The oldest record taken from the queue (R156). -/
theorem pop {q : EventQueue} (h : q.Sound) : ({ q with records := q.records.tail }).Sound where
  length := q.records.length_tail.trans_le ((Nat.sub_le _ _).trans h.length)
  apart := h.apart.tail
  counted r hr := h.counted r (List.mem_of_mem_tail hr)

theorem post {q : EventQueue} (h : q.Sound) (t : Tag) (k : EventKind) (driver zone : Option Nat)
    (value : Option Int) : (q.post t k driver zone value).Sound where
  length := length_post_le h.length
  apart := pairwise_post h.apart
  counted r hr := by
    rcases q.post_cases t k driver zone value with hq | ⟨_, _, hq⟩ | hq <;> rw [hq] at hr
    · obtain ⟨x, hx, rfl⟩ := List.mem_map.1 hr
      have hcount := h.counted x hx
      unfold EventRecord.afterPost
      split
      · simp only [EventRecord.coalesce]
        omega
      · exact hcount
    · rcases List.mem_append.1 hr with hr | hr
      · exact h.counted r hr
      · obtain rfl := List.mem_singleton.1 hr
        exact ⟨le_rfl, by simp⟩
    · exact h.counted r hr

theorem postAll {q : EventQueue} (h : q.Sound) (t : Tag) (posts : List Post) :
    (EventQueue.postAll t q posts).Sound := by
  induction posts generalizing q with
  | nil => exact h
  | cons p rest ih => exact ih (h.post t _ _ _ _)

/-! ### The shared operations that post -/

section

variable {s : State} (h : s.events.Sound)

include h

/-- A commit posts each driver that it finds unreachable (R112). -/
theorem frameStart : s.frameStart.events.Sound := by
  have hflush : s.flush.events = s.events := by simp
  rcases s.frameStart_cases with ⟨_, hs⟩ | ⟨_, hs⟩ <;> rw [hs]
  · exact (hflush ▸ h).postAll _ _
  · rwa [State.raise_events, hflush]

theorem internalStart (next : Nat) : (s.internalStart next).events.Sound := by
  have hstart : (State.frameStart { s with timing := { s.timing with freeRun := .running next } }).events.Sound :=
    frameStart h
  simpa [State.internalStart] using hstart

theorem lossExpiry : s.lossExpiry.events.Sound :=
  internalStart (h.post _ _ _ _ _) _

theorem fsyncEdge : s.fsyncEdge.events.Sound := by
  unfold State.fsyncEdge
  split
  · split
    · split
      · exact h
      · exact frameStart h
    · exact frameStart (h.post _ _ _ _ _)
  · exact h

theorem discoverFrom (first : Nat) : (s.discoverFrom first).events.Sound := by
  unfold State.discoverFrom
  split
  · exact h
  · unfold State.discoveryEnd
    split
    · exact h
    · exact h.post _ _ _ _ _

theorem discoveryNext : s.discoveryNext.events.Sound := by
  unfold State.discoveryNext
  split
  · exact discoverFrom h _
  · exact h

theorem enterDiscovery : s.enterDiscovery.events.Sound := by
  refine discoverFrom ?_ 0
  exact h

theorem handRead (i : Nat) (kept : Bool) (p : Option ReadReport) : (s.handRead i kept p).events.Sound := by
  unfold State.handRead
  split
  · split
    · cases p <;> exact h.postAll _ _
    · exact h
  · exact h

theorem readFollows (i : Nat) (asker : ReadAsker) (claim : Bool) : (s.readFollows i asker claim).events.Sound := by
  cases claim with
  | false => rwa [s.readFollows_withdrawn]
  | true =>
    cases asker with
    | discovery => exact discoveryNext h
    | probe | attention | rotation => exact h

end

end EventQueue.Sound

/-! ### The commands -/

/-- A command leaves the queue, posts, pops, clears EVENT-OVERFLOW, or resets the queue (R153 to R156, R183, R184). -/
theorem exec_keeps_soundEvents {c : Instr} {s t : State} (h : exec c s = .next t) (hi : s.events.Sound) :
    t.events.Sound := by
  have kept (hn : owns c .events = false) : t.events.Sound := by
    rwa [show t.events = s.events from exec_keeps (p := .events) h hn]
  cases c with
  | setLoss params =>
    cases h
    split
    · dsimp only
      split
      · split
        · exact .lossExpiry hi
        · exact hi
      · exact hi
    · exact hi
  | start params =>
    cases h
    split
    · exact .enterDiscovery hi
    · exact hi
  | rearm params =>
    cases h
    split
    · dsimp only
      split
      · exact hi
      · exact .enterDiscovery hi
    · exact hi
  | softReset params =>
    cases h
    split
    · exact .empty false
    · exact (EventQueue.Sound.empty false).post _ _ _ _ _
  | supervisorReadStatus params =>
    cases h
    exact hi.withOverflow false
  | popEvent params =>
    cases h
    exact hi.pop
  | fsyncFallingEdge time held high =>
    cases h
    split
    · split
      · exact .fsyncEdge hi
      · exact hi
    · exact hi
  | killFallingEdge held =>
    cases h
    split
    · exact hi.post _ _ _ _ _
    · exact hi
  | powerOnReset straps hold kill fsync =>
    cases h
    exact .empty false
  | lossTimerExpiry =>
    cases h
    split
    · exact .lossExpiry hi
    · exact hi
  | internalFrameStart =>
    cases h
    split
    · refine .internalStart ?_ _
      exact hi
    · exact hi
  | discoveryConfigEnding status wide =>
    cases h
    split
    · split
      · split
        · exact hi
        · exact .discoveryNext (hi.post _ _ _ _ _)
      · exact hi
    · exact hi
  | probeConfigEnding status wide =>
    cases h
    split
    · split
      · split
        · exact hi.post _ _ _ _ _
        · exact hi
      · exact hi
    · exact hi
  | readEnding status response wide =>
    cases h
    split
    · refine .readFollows (.handRead ?_ _ _ _) _ _ _
      exact hi
    · exact hi
  | _ => exact kept rfl

end Sys2Proof.Machine

/-! ## The canonical form of every table over every step (O60) -/

namespace Sys2Proof.Machine

open Sys2Proof

/-! ### Demands, gains and locks (R6, R10, R15) -/

theorem exec_keeps_demand_wf {c : Instr} {s t : State} (h : exec c s = .next t) (hi : s.zone.demand.wf 0) :
    t.zone.demand.wf 0 := by
  have kept (hn : owns c .demand = false) : t.zone.demand.wf 0 := by
    rwa [show t.zone.demand = s.zone.demand from exec_keeps (p := .demand) h hn]
  cases c with
  | demandValue value =>
    cases h
    split
    · exact Store.wf_set hi _ _
    · exact hi
  | setGrid params =>
    rcases exec_setGrid_cases h with ⟨_, rfl⟩ | ⟨_, _, _, _, rfl⟩
    · exact hi
    · exact Store.wf_empty _
  | powerOnReset straps hold kill fsync =>
    cases h
    exact Store.wf_empty _
  | _ => exact kept rfl

/-- Both gain tables in their canonical form (log entry 15). -/
def ZoneStore.GainsWf (z : ZoneStore) : Prop := z.gainA.wf 1024 ∧ z.gainB.wf 1024

theorem ZoneStore.GainsWf.putGain {z : ZoneStore} (h : z.GainsWf) (g : GainSet) (i : Nat) (v : Gain) :
    (z.putGain g i v).GainsWf := by
  obtain ⟨ha, hb⟩ := h
  cases g with
  | a => exact ⟨Store.wf_set ha _ _, hb⟩
  | b => exact ⟨ha, Store.wf_set hb _ _⟩

theorem ZoneStore.GainsWf.putGains {z : ZoneStore} (h : z.GainsWf) (g : GainSet) (l : List (Nat × Gain)) :
    (z.putGains g l).GainsWf := by
  induction l generalizing z with
  | nil => exact h
  | cons x rest ih => exact ih (h.putGain g _ _)

theorem ZoneStore.gainsWf_empty {z : ZoneStore} (ha : z.gainA = ⟨[]⟩) (hb : z.gainB = ⟨[]⟩) : z.GainsWf := by
  rw [ZoneStore.GainsWf, ha, hb]
  exact ⟨Store.wf_empty _, Store.wf_empty _⟩

theorem exec_keeps_gains_wf {c : Instr} {s t : State} (h : exec c s = .next t) (hi : s.zone.GainsWf) :
    t.zone.GainsWf := by
  have kept (hn : owns c .gains = false) : t.zone.GainsWf := by
    obtain ⟨ha, hb⟩ := Prod.mk.inj (exec_keeps (p := .gains) h hn)
    rwa [ZoneStore.GainsWf, ha, hb]
  cases c with
  | pictureGainValue value =>
    rcases exec_pictureGainValue_cases h with rfl | ⟨g, o, p, _, ⟨_, rfl⟩ | ⟨_, rfl⟩⟩
    · exact hi
    · exact hi
    · exact hi.putGain g _ _
  | supervisorWriteGain params =>
    rcases exec_supervisorWriteGain_cases h with ⟨_, rfl⟩ | ⟨g, zones, gains, _, rfl⟩
    · exact hi
    · exact hi.putGains g _
  | setGrid params =>
    rcases exec_setGrid_cases h with ⟨_, rfl⟩ | ⟨_, _, _, _, rfl⟩
    · exact hi
    · exact ZoneStore.gainsWf_empty rfl rfl
  | powerOnReset straps hold kill fsync =>
    cases h
    exact ZoneStore.gainsWf_empty rfl rfl
  | _ => exact kept rfl

theorem exec_keeps_locks_wf {c : Instr} {s t : State} (h : exec c s = .next t) (hi : s.zone.locks.wf none) :
    t.zone.locks.wf none := by
  have kept (hn : owns c .locks = false) : t.zone.locks.wf none := by
    rwa [show t.zone.locks = s.zone.locks from exec_keeps (p := .locks) h hn]
  cases c with
  | lockRange params =>
    rcases exec_lockRange_cases h with ⟨_, rfl⟩ | ⟨_, _, _, rfl⟩
    · exact hi
    · exact Store.wf_set hi _ _
  | powerOnReset straps hold kill fsync =>
    cases h
    exact Store.wf_empty _
  | _ => exact kept rfl

/-! ### Zone enables and fault marks (R17, R18, R152) -/

/-- The commands that write zone enables or fault marks. -/
def marksZones : Instr → Bool
  | .setGrid _ | .zoneEnable _ | .clearFault _ | .softReset _ | .powerOnReset _ _ _ _ | .readEnding _ _ _ => true
  | _ => false

/-- Every other command leaves the zone enables and the fault marks (R17, R18, R152). -/
theorem exec_keeps_marks {c : Instr} {s t : State} (h : exec c s = .next t) (hc : marksZones c = false) :
    (t.zone.enable, t.zone.fault) = (s.zone.enable, s.zone.fault) := by
  cases c with
  | setGrid | zoneEnable | clearFault | softReset | powerOnReset | readEnding => cases hc
  | pictureGainValue | setLoss | ackAlert | rearm | latchEnding | blankEnding =>
    cases h
    dsimp only
    (repeat' split) <;> simp
  | supervisorWriteGain | start | killFallingEdge | fsyncFallingEdge | lossTimerExpiry | internalFrameStart | closeFrame
  | pass2Zone | levelEnding | discoveryConfigEnding =>
    cases h
    (repeat' split) <;> simp
  | _ =>
    cases h
    (repeat' split) <;> rfl

/-- Zone enables and fault marks in their canonical form (log entry 15). -/
def ZoneStore.MarksWf (z : ZoneStore) : Prop := z.enable.wf true ∧ z.fault.wf false

theorem markFaults_wf {m : Store Bool} (h : m.wf false) (zones : List Nat) : (markFaults m zones).wf false := by
  induction zones generalizing m with
  | nil => exact h
  | cons z rest ih => exact ih (Store.wf_set h _ _)

theorem State.handRead_marksWf {s : State} (h : s.zone.MarksWf) (i : Nat) (kept : Bool) (p : Option ReadReport) :
    (s.handRead i kept p).zone.MarksWf := by
  obtain ⟨henable, hfault⟩ := h
  unfold State.handRead
  split
  · split
    · cases p with
      | none => exact ⟨henable, hfault⟩
      | some p => exact ⟨henable, markFaults_wf hfault _⟩
    · exact ⟨henable, hfault⟩
  · exact ⟨henable, hfault⟩

theorem exec_keeps_marks_wf {c : Instr} {s t : State} (h : exec c s = .next t) (hi : s.zone.MarksWf) :
    t.zone.MarksWf := by
  have kept (hn : marksZones c = false) : t.zone.MarksWf := by
    obtain ⟨henable, hfault⟩ := Prod.mk.inj (exec_keeps_marks h hn)
    rwa [ZoneStore.MarksWf, henable, hfault]
  obtain ⟨henable, hfault⟩ := hi
  cases c with
  | setGrid params =>
    rcases exec_setGrid_cases h with ⟨_, rfl⟩ | ⟨_, _, _, _, rfl⟩
    · exact ⟨henable, hfault⟩
    · exact ⟨Store.wf_empty _, Store.wf_empty _⟩
  | zoneEnable params =>
    cases h
    split
    · exact ⟨Store.wf_fill henable _ _ _, hfault⟩
    · exact ⟨henable, hfault⟩
  | clearFault params =>
    cases h
    split
    · exact ⟨henable, Store.wf_fill hfault _ _ _⟩
    · exact ⟨henable, hfault⟩
  | softReset params =>
    cases h
    split <;> exact ⟨henable, Store.wf_empty _⟩
  | powerOnReset straps hold kill fsync =>
    cases h
    exact ⟨Store.wf_empty _, Store.wf_empty _⟩
  | readEnding status response wide =>
    cases h
    split
    · simpa using State.handRead_marksWf (s := { s with link := s.link.finish wide }) ⟨henable, hfault⟩ _ _ _
    · exact ⟨henable, hfault⟩
  | _ => exact kept rfl

/-! ### The zone records of both banks (R70) -/

/-- The zone records of both banks in their canonical form (log entry 15). -/
def MapBanks.RecordsWf (b : MapBanks) : Prop := b.active.zones.wf .reset ∧ b.pendingBank.zones.wf .reset

namespace MapBanks.RecordsWf

variable {s t : State}

/-- The records alone bear on it. -/
theorem congr (hi : s.banks.RecordsWf) (ha : t.banks.active = s.banks.active)
    (hp : t.banks.pendingBank.zones = s.banks.pendingBank.zones) : t.banks.RecordsWf := by
  rwa [RecordsWf, ha, hp]

/-- The banks exchanged, with the zones of failed drivers carried forward (R77, R78). -/
theorem frameStart (hi : s.banks.RecordsWf) : s.frameStart.banks.RecordsWf := by
  obtain ⟨ha, hp⟩ := hi
  rw [s.frameStart_banks]
  split
  · exact ⟨Store.wf_update hp _ _, ha⟩
  · exact ⟨ha, hp⟩

theorem lossSolve (hi : s.banks.RecordsWf) : s.lossSolve.banks.RecordsWf :=
  hi.congr (by simp) s.lossSolve_pending.1

theorem internalStart (hi : s.banks.RecordsWf) (next : Nat) : (s.internalStart next).banks.RecordsWf :=
  .lossSolve (frameStart (s := { s with timing := { s.timing with freeRun := .running next } }) hi)

theorem keepsMap (hi : s.banks.RecordsWf) (hm : KeepsMap s t) : t.banks.RecordsWf := by
  obtain ⟨ha, hp⟩ := hi
  refine ⟨?_, by rwa [hm.zones]⟩
  rcases hm.active with h | ⟨tag, h⟩ <;> rw [h]
  · exact ha
  · exact Store.wf_empty _

/-- One pending record written (R40). -/
theorem putZone (hi : s.banks.RecordsWf) (i : Nat) (r : ZoneRecord) :
    ({ s.banks with pendingBank := s.banks.pendingBank.putZone i r } : MapBanks).RecordsWf :=
  ⟨hi.1, Store.wf_set hi.2 i r⟩

theorem solveEnd (hi : s.banks.RecordsWf) : s.solveEnd.banks.RecordsWf := by
  unfold State.solveEnd
  dsimp only
  split
  · exact hi
  · exact hi.congr (by simp) (by simp)

end MapBanks.RecordsWf

theorem exec_keeps_records_wf {c : Instr} {s t : State} (h : exec c s = .next t) (hi : s.banks.RecordsWf) :
    t.banks.RecordsWf := by
  have ownFrame (hc : StartsOwnFrame c) : t.banks.RecordsWf :=
    exec_ownFrame_keeps (P := fun u => u.banks.RecordsWf) hc h
      (fun u _ hu => hi.congr (hu .active nofun nofun) (congrArg Bank.zones (hu .pendingBank nofun nofun)))
      fun u next hu => hu.internalStart next
  cases c with
  | closeFrame record cut =>
    rcases exec_closeFrame_cases h with ⟨_, rfl⟩ | ⟨_, rfl⟩ | ⟨_, _, _, r, _, rfl⟩
    · exact hi
    · exact hi
    · exact hi.congr (by simp) (by simp [State.startSolve])
  | fsyncFallingEdge time held high =>
    exact exec_fsync_keeps (P := fun u => u.banks.RecordsWf) h
      (fun u hu => hi.congr (hu .active nofun nofun nofun)
        (congrArg Bank.zones (hu .pendingBank nofun nofun nofun)))
      fun u hu => hu.frameStart
  | lossTimerExpiry => exact ownFrame (.inl rfl)
  | internalFrameStart => exact ownFrame (.inr (.inl rfl))
  | setLoss p => exact ownFrame (.inr (.inr ⟨p, rfl⟩))
  | powerOnReset straps hold kill fsync =>
    cases h
    exact ⟨Store.wf_empty _, hi.2⟩
  | pass1Zone =>
    cases h
    split
    · exact hi.putZone _ _
    · exact hi
  | factorStep =>
    cases h
    split <;> exact hi
  | pass2Zone =>
    have handled : s.pass2Step.banks.RecordsWf := hi.putZone _ _
    cases h
    split
    · split
      · exact handled.solveEnd
      · exact handled
    · exact hi
  | _ => exact hi.keepsMap (exec_keepsMap h rfl)

/-! ### The entries of the Driver Table (R101) -/

/-- The entries of the Driver Table in their canonical form (log entry 15). -/
def DriverTable.EntriesWf (d : DriverTable) : Prop := d.entries.wf none

namespace DriverTable.EntriesWf

section

variable {d : DriverTable} (h : d.EntriesWf)

include h

/-- The entries alone bear on it. -/
theorem congr {d' : DriverTable} (he : d'.entries = d.entries) : d'.EntriesWf := by
  rwa [EntriesWf, he]

theorem put (i : Nat) (e : Option DriverEntry) : (d.put i e).EntriesWf := Store.wf_set h i e

theorem mapEntries (f : DriverEntry → DriverEntry) : (d.mapEntries f).EntriesWf := Store.wf_mapOption h f

theorem endRound : d.endRound.EntriesWf := mapEntries h _

theorem openRound : d.openRound.EntriesWf := mapEntries h _

theorem levelEnded (i : Nat) (x : Ending) : (d.levelEnded i x).EntriesWf := by
  unfold DriverTable.levelEnded DriverTable.failEntry
  split
  · split
    · exact put h _ _
    · split <;> exact put h _ _
    · split <;> exact put h _ _
  · exact h

theorem setState (i : Nat) (x : DriverState) : (d.setState i x).EntriesWf := by
  unfold DriverTable.setState
  split
  · exact put h _ _
  · exact h

theorem recover (i : Nat) (pend : PendState) : (d.recover i pend).EntriesWf := by
  unfold DriverTable.recover
  split
  · exact put h _ _
  · exact h

end

section

variable {s : State} (h : s.drivers.EntriesWf)

include h

theorem frameStart : s.frameStart.drivers.EntriesWf := by
  have hflush : s.flush.drivers = s.drivers := by simp
  rcases s.frameStart_cases with ⟨_, hs⟩ | ⟨_, hs⟩ <;> rw [hs]
  · exact mapEntries (hflush ▸ h) _
  · rwa [State.raise_drivers, hflush]

theorem lossSolve : s.lossSolve.drivers.EntriesWf := by
  rcases s.lossSolve_cases with hs | ⟨_, _, hs⟩ <;> rw [hs]
  · exact h
  · split
    · exact endRound h
    · exact h

theorem internalStart (next : Nat) : (s.internalStart next).drivers.EntriesWf :=
  lossSolve (frameStart (s := { s with timing := { s.timing with freeRun := .running next } }) h)

theorem replaceWork : s.replaceWork.drivers.EntriesWf := by
  unfold State.replaceWork
  split
  · split
    · exact endRound h
    · exact h
  · exact h

theorem continueRound : s.continueRound.drivers.EntriesWf := h.congr (by simp)

theorem discoveryNext : s.discoveryNext.drivers.EntriesWf := h.congr (by simp)

theorem beginRound : s.beginRound.drivers.EntriesWf := by
  unfold State.beginRound
  split
  · exact .continueRound (openRound h)
  · exact h

theorem bandEnded : s.bandEnded.drivers.EntriesWf := by
  unfold State.bandEnded
  split
  · split
    · exact h
    · exact beginRound (s := { s with timing := s.timing.cancel }) h
  · exact h

theorem solveEnd : s.solveEnd.drivers.EntriesWf := by
  unfold State.solveEnd
  dsimp only
  split
  · exact h
  · refine beginRound ?_
    exact h

theorem enterDiscovery : s.enterDiscovery.drivers.EntriesWf :=
  (mapEntries h DriverEntry.unprobed).congr (by simp [State.enterDiscovery])

end

end DriverTable.EntriesWf

theorem exec_keeps_entries_wf {c : Instr} {s t : State} (h : exec c s = .next t) (hi : s.drivers.EntriesWf) :
    t.drivers.EntriesWf := by
  have kept (hn : owns c .entries = false) : t.drivers.EntriesWf :=
    hi.congr (exec_keeps (p := .entries) h hn)
  have ownFrame (hc : StartsOwnFrame c) : t.drivers.EntriesWf :=
    exec_ownFrame_keeps (P := fun u => u.drivers.EntriesWf) hc h
      (fun u _ hu => hi.congr (hu .entries nofun nofun)) fun u next hu => hu.internalStart next
  cases c with
  | closeFrame record cut =>
    rcases exec_closeFrame_cases h with ⟨_, rfl⟩ | ⟨_, rfl⟩ | ⟨_, _, _, r, _, rfl⟩
    · exact hi
    · exact hi
    · exact hi.replaceWork
  | setGrid params =>
    rcases exec_setGrid_cases h with ⟨_, rfl⟩ | ⟨_, _, _, _, rfl⟩
    · exact hi
    · exact Store.wf_empty _
  | loadDriver params =>
    cases h
    split
    · split
      · exact hi.put _ _
      · split
        · exact hi.put _ _
        · exact hi
      · exact hi
    · exact hi
  | fsyncFallingEdge time held high =>
    exact exec_fsync_keeps (P := fun u => u.drivers.EntriesWf) h
      (fun u hu => hi.congr (hu .entries nofun nofun nofun)) fun u hu => hu.frameStart
  | lossTimerExpiry => exact ownFrame (.inl rfl)
  | internalFrameStart => exact ownFrame (.inr (.inl rfl))
  | setLoss p => exact ownFrame (.inr (.inr ⟨p, rfl⟩))
  | start params =>
    cases h
    split
    · exact .enterDiscovery hi
    · exact hi
  | rearm params =>
    cases h
    split
    · dsimp only
      split
      · exact hi
      · exact .enterDiscovery hi
    · exact hi
  | stop params =>
    cases h
    split
    · exact hi
    · exact hi
    · exact hi.endRound
    · exact hi.endRound
  | killFallingEdge held =>
    cases h
    split
    · exact hi.endRound
    · exact hi
  | softReset params =>
    have unprobed := hi.mapEntries DriverEntry.unprobed
    cases h
    split
    · exact unprobed
    · exact unprobed.endRound
  | powerOnReset straps hold kill fsync =>
    cases h
    exact Store.wf_empty _
  | pass2Zone =>
    cases h
    split
    · split
      · exact .solveEnd hi
      · exact hi
    · exact hi
  | levelEnding status wide =>
    cases h
    split
    · split
      · exact .continueRound (hi.levelEnded _ _)
      · exact hi
    · exact hi
  | latchEnding errorReport wide =>
    cases h
    split
    · dsimp only
      split
      · exact hi
      · split
        · exact .bandEnded hi
        · exact hi
    · exact hi
  | discoveryConfigEnding status wide =>
    cases h
    split
    · split
      · split
        · exact hi.setState _ _
        · exact .discoveryNext (hi.setState _ _)
      · exact hi
    · exact hi
  | probeConfigEnding status wide =>
    cases h
    split
    · split
      · split
        · exact hi.recover _ _
        · exact hi
      · exact hi
    · exact hi
  | _ => exact kept rfl

/-! ### The thermal records (R143) -/

theorem State.handRead_thermal_wf {s : State} (h : s.thermal.wf .reset) (i : Nat) (kept : Bool)
    (p : Option ReadReport) : (s.handRead i kept p).thermal.wf .reset := by
  unfold State.handRead
  split
  · split
    · cases p <;> exact Store.wf_set h _ _
    · exact h
  · exact h

theorem exec_keeps_thermal_wf {c : Instr} {s t : State} (h : exec c s = .next t) (hi : s.thermal.wf .reset) :
    t.thermal.wf .reset := by
  have kept (hn : owns c .thermal = false) : t.thermal.wf .reset := by
    rwa [show t.thermal = s.thermal from exec_keeps (p := .thermal) h hn]
  cases c with
  | loadDriver params =>
    cases h
    split
    · split
      · exact hi
      · split
        · exact Store.wf_set hi _ _
        · exact hi
      · exact hi
    · exact hi
  | ackAlert params =>
    cases h
    split
    · exact hi
    · dsimp only
      split
      · exact Store.wf_set hi _ _
      · exact hi
  | softReset params =>
    cases h
    split <;> exact Store.wf_empty _
  | powerOnReset straps hold kill fsync =>
    cases h
    exact Store.wf_empty _
  | readEnding status response wide =>
    cases h
    split
    · simpa using State.handRead_thermal_wf (s := { s with link := s.link.finish wide }) hi _ _ _
    · exact hi
  | _ => exact kept rfl

/-! ### The invariant (log entry 15) -/

theorem exec_keeps_tablesInv {c : Instr} {s t : State} (h : exec c s = .next t) (hi : TablesInv s) : TablesInv t := by
  obtain ⟨hdemand, hgainA, hgainB, henable, hfault, hlocks, hactive, hpending, hentries, hthermal⟩ := hi
  obtain ⟨hgainA, hgainB⟩ := exec_keeps_gains_wf h ⟨hgainA, hgainB⟩
  obtain ⟨henable, hfault⟩ := exec_keeps_marks_wf h ⟨henable, hfault⟩
  obtain ⟨hactive, hpending⟩ := exec_keeps_records_wf h ⟨hactive, hpending⟩
  exact ⟨exec_keeps_demand_wf h hdemand, hgainA, hgainB, henable, hfault, exec_keeps_locks_wf h hlocks, hactive,
    hpending, exec_keeps_entries_wf h hentries, exec_keeps_thermal_wf h hthermal⟩

/-- Settles O60: every command keeps the bounds of the event queue and the canonical form of each table, and a
microsecond that passes touches neither. -/
theorem everyStepKeepsTheEventQueueAndTheTables : Obligations.EveryStepKeepsTheEventQueueAndTheTables := by
  intro s t h
  rcases step_cases h with rfl | ⟨c, rest, hc⟩
  · exact ⟨id, id⟩
  · exact ⟨fun hi => eventInv_iff.2 (exec_keeps_soundEvents hc (eventInv_iff.1 hi)),
      fun hi => exec_keeps_tablesInv hc hi⟩

end Sys2Proof.Machine

/-! ## Derate cap, thermal state and ACK ALERT (O42) -/

namespace Sys2Proof.Machine

open Sys2Proof

/-! ### The derate cap (R148) -/

/-- What the derate cap at a temperature takes off full scale: nothing up to Ts, all that it may from Te on, and in
between the share of the range that the temperature has crossed (R148). -/
def DerateSetting.drop (d : DerateSetting) (t : Int) : Nat :=
  min (t - d.ts).toNat (d.te - d.ts).toNat * (4095 - d.capmin) / (d.te - d.ts).toNat

section

variable {d : DerateSetting} {t t' : Int}

theorem derateCap_blind (d : DerateSetting) (t : Int) : derateCap d t true = d.capmin := if_pos rfl

theorem DerateSetting.drop_cold (h : t ≤ d.ts) : d.drop t = 0 := by
  simp [DerateSetting.drop, Int.toNat_of_nonpos (show t - d.ts ≤ 0 by omega)]

theorem DerateSetting.drop_hot (hd : d.ts < d.te) (h : d.te ≤ t) : d.drop t = 4095 - d.capmin := by
  have hmin : min (t - d.ts).toNat (d.te - d.ts).toNat = (d.te - d.ts).toNat := by omega
  rw [DerateSetting.drop, hmin]
  exact Nat.mul_div_cancel_left _ (by omega)

theorem DerateSetting.drop_between (h : t < d.te) :
    d.drop t = (t - d.ts).toNat * (4095 - d.capmin) / (d.te - d.ts).toNat := by
  have hmin : min (t - d.ts).toNat (d.te - d.ts).toNat = (t - d.ts).toNat := by omega
  rw [DerateSetting.drop, hmin]

theorem DerateSetting.drop_le (d : DerateSetting) (t : Int) : d.drop t ≤ 4095 - d.capmin :=
  Nat.div_le_of_le_mul (Nat.mul_le_mul_right _ (Nat.min_le_right _ _))

theorem DerateSetting.drop_mono (h : t ≤ t') : d.drop t ≤ d.drop t' :=
  Nat.div_le_div_right (Nat.mul_le_mul_right _ (by omega))

/-- The cap is full scale less the drop (R148). -/
theorem derateCap_eq (hd : d.ts < d.te) (hcap : d.capmin ≤ 4095) (t : Int) :
    derateCap d t false = 4095 - d.drop t := by
  unfold derateCap
  rw [if_neg (by simp)]
  split
  · next h => rw [DerateSetting.drop_cold h]
  · split
    · next h =>
      rw [DerateSetting.drop_hot hd h]
      omega
    · next h => rw [DerateSetting.drop_between (not_le.1 h)]

/-- Between Ts and Te the cap is R148's quotient, taken over the integers. -/
theorem derateCap_between (hcap : d.capmin ≤ 4095) (hlow : d.ts < t) (hhigh : t < d.te) :
    (derateCap d t false : Int) = 4095 - (t - d.ts) * (4095 - d.capmin) / (d.te - d.ts) := by
  have hle := d.drop_le t
  have hcrossed : ((t - d.ts).toNat : Int) = t - d.ts := Int.toNat_of_nonneg (by omega)
  have hrange : ((d.te - d.ts).toNat : Int) = d.te - d.ts := Int.toNat_of_nonneg (by omega)
  rw [derateCap_eq (hlow.trans hhigh) hcap, Nat.cast_sub (by omega), DerateSetting.drop_between hhigh]
  push_cast [hcap, hcrossed, hrange]
  rfl

end

/-! ### The moves of the thermal state (R149) -/

/-- At Ta and above: the alert is raised, or posted again, unless it is acknowledged. -/
theorem alertMove_hot {t ta : Int} (h : ta ≤ t) :
    alertMove .normal t ta = (.alert, some .thermalAlert) ∧ alertMove .alert t ta = (.alert, some .thermalAlert)
      ∧ alertMove .acknowledged t ta = (.acknowledged, none) :=
  ⟨if_pos h, if_pos h, if_pos (by simp only [Config.hysteresis]; omega)⟩

/-- In the 5 °C under Ta every state stays. -/
theorem alertMove_band {t ta : Int} (hlow : ta - 5 ≤ t) (hhigh : t < ta) :
    alertMove .normal t ta = (.normal, none) ∧ alertMove .alert t ta = (.alert, none)
      ∧ alertMove .acknowledged t ta = (.acknowledged, none) :=
  ⟨if_neg (not_le.2 hhigh), (if_neg (not_le.2 hhigh)).trans (if_pos hlow), if_pos hlow⟩

/-- Below that the alert ends. -/
theorem alertMove_cool {t ta : Int} (h : t < ta - 5) :
    alertMove .normal t ta = (.normal, none) ∧ alertMove .alert t ta = (.normal, some .thermalNormal)
      ∧ alertMove .acknowledged t ta = (.normal, some .thermalNormal) :=
  ⟨if_neg (by omega), (if_neg (by omega)).trans (if_neg (not_le.2 h)), if_neg (not_le.2 h)⟩

/-! ### ACK ALERT (R150) -/

theorem exec_ackAlert_range {params : List Byte} {s : State} (hidx : entryIndexOf params = none) :
    exec (.ackAlert params) s = .next (s.result .range) := by
  show execAckAlert params s = _
  rw [execAckAlert, hidx]

theorem exec_ackAlert_eq {params : List Byte} {s : State} {i : Nat} (hidx : entryIndexOf params = some i) :
    exec (.ackAlert params) s = .next
      (if (s.drivers.entryAt i).isSome ∧ (s.thermal.get .reset i).state ≠ .normal then
        State.result .ok
          { s with thermal := s.thermal.set .reset i { s.thermal.get .reset i with state := .acknowledged } }
      else s.result .wrongState) := by
  show execAckAlert params s = _
  rw [execAckAlert, hidx]

/-- Settles O42: the cap against what it takes off full scale, the moves by the three bands of temperature, and ACK
ALERT by its checks. -/
theorem thermalStateAndCapFollowTheTemperature : Obligations.ThermalStateAndCapFollowTheTemperature := by
  refine ⟨fun d t t' hd hcap => ?_, fun t ta => ⟨alertMove_hot, alertMove_band, alertMove_cool⟩,
    fun i rest s => ⟨fun hi => exec_ackAlert_range (entryIndexOf_above hi), fun hi hno => ?_,
      fun hi hentry hstate => ?_⟩⟩
  · have hle := d.drop_le t
    refine ⟨derateCap_blind d t, fun h => ?_, fun h => ?_, derateCap_between hcap, ?_, ?_, fun h => ?_⟩
    all_goals rw [derateCap_eq hd hcap]
    · rw [DerateSetting.drop_cold h]
    · rw [DerateSetting.drop_hot hd h]
      omega
    · omega
    · omega
    · rw [derateCap_eq hd hcap]
      exact Nat.sub_le_sub_left (DerateSetting.drop_mono h) _
  · rw [exec_ackAlert_eq (entryIndexOf_below hi), if_neg]
    · rfl
    · rintro ⟨hentry, hstate⟩
      rcases hno with hno | hno
      · simp [hno] at hentry
      · exact hstate hno
  · rw [exec_ackAlert_eq (entryIndexOf_below hi), if_pos ⟨Option.isSome_iff_ne_none.2 hentry, hstate⟩]
    exact ⟨_, rfl, fun j => Store.get_set _ _ _ _ _, rfl⟩

end Sys2Proof.Machine

/-! ## READ STATUS on both ports, and the output pins (O45) -/

namespace Sys2Proof.Machine

open Sys2Proof

/-! ### The records (R168, R169, R174, R175) -/

/-- The reachable count is that of the 48 indices with an entry in REACHABLE or FAILING (R107, R175). -/
theorem DriverTable.reachableCount_eq (d : DriverTable) :
    d.reachableCount = ((List.range 48).filter fun i =>
      match d.entryAt i with
      | some e => e.state = .reachable ∨ e.state = .failing
      | none => False).length := by
  rw [DriverTable.reachableCount, DriverTable.shippable, DriverTable.present, List.filter_filterMap,
    List.map_filterMap, ← List.filterMap_eq_filter]
  refine congrArg List.length (List.filterMap_congr fun i _ => ?_)
  cases he : d.entryAt i with
  | none => simp [Option.guard, he]
  | some e => simp [Option.filter, Option.guard, he, DriverEntry.shippable]

theorem exec_pictureReadStatus_eq (s : State) :
    exec (.pictureReadStatus false) s = .next { s with picture := ⟨.none, .readStatus s.pictureStatus⟩ } := rfl

theorem exec_supervisorReadStatus_eq (params : List Byte) (s : State) :
    exec (.supervisorReadStatus params) s = .next
      (State.fixRecord (.status s.supervisorStatus)
        { s with sup := { s.sup with flags := .none }, events := { s.events with overflow := false } }) := rfl

/-! ### The output pins (R158, R170, R171, R189) -/

section

variable (s fall first : State) {m : Moment}

theorem State.pins_inReset (h : m.rstn = false) : s.pins fall first m = pinsInReset :=
  if_neg (by simp [h])

theorem State.pins_prdy (h : m.rstn = true) : (s.pins fall first m).prdy = .driven s.zone.storeOpen := by
  rw [State.pins, if_pos h, State.prdy]

theorem State.pins_mapRdy (h : m.rstn = true) : (s.pins fall first m).mapRdy = .driven s.banks.waiting := by
  rw [State.pins, if_pos h, State.mapRdy]

theorem State.pins_salert (h : m.rstn = true) : (s.pins fall first m).salert = .openDrain (!s.salertLow) := by
  rw [State.pins, if_pos h]

end

/-- SALERT is pulled low while a record waits and in SAFE (R158). -/
theorem State.salertLow_iff {s : State} : s.salertLow = true ↔ s.events.records ≠ [] ∨ s.sup.op = .safe := by
  simp [State.salertLow]

/-- Settles O45: the record that each READ STATUS takes, and the pins with RSTN high and low. -/
theorem readStatusClearsItsOwnFlags : Obligations.ReadStatusClearsItsOwnFlags := by
  refine ⟨fun params s => ⟨exec_pictureReadStatus_eq s, ?_⟩, fun s fall u m => ⟨fun h => ⟨?_, ?_, ?_⟩,
    fun h => s.pins_inReset fall u h⟩⟩
  · rw [exec_supervisorReadStatus_eq, State.supervisorStatus, DriverTable.reachableCount_eq]
    rfl
  · rw [s.pins_prdy fall u h]
    rfl
  · rw [s.pins_mapRdy fall u h, PinLevel.driven]
    simp only [MapBanks.waiting_iff]
  · rw [s.pins_salert fall u h, PinLevel.openDrain]
    simp only [← State.salertLow_iff]
    cases s.salertLow <;> rfl

end Sys2Proof.Machine

/-! ## READ MAP of the picture port, and the bytes of a map answer (O44) -/

namespace Sys2Proof.Machine

open Sys2Proof

/-! ### Numbers and tags as bytes (R185) -/

@[simp] theorem toNat_byte (n : Nat) : (byte n).toNat = n % 256 := BitVec.toNat_ofNat n 8

theorem toNat_byte_of_lt {n : Nat} (h : n < 256) : (byte n).toNat = n := by
  rw [toNat_byte, Nat.mod_eq_of_lt h]

/-- The two bytes of a field hold its number modulo 2 ^ 16. -/
theorem toNat_bytes16 (n : Nat) :
    ((bytes16 n).getD 0 0).toNat * 256 + ((bytes16 n).getD 1 0).toNat = n % 65536 := by
  simp only [bytes16, List.getD_cons_zero, List.getD_cons_succ, toNat_byte]
  omega

/-- The three bytes of a field hold its number modulo 2 ^ 24. -/
theorem toNat_bytes24 (n : Nat) :
    ((bytes24 n).getD 0 0).toNat * 65536 + ((bytes24 n).getD 1 0).toNat * 256 + ((bytes24 n).getD 2 0).toNat
      = n % 16777216 := by
  simp only [bytes24, List.getD_cons_zero, List.getD_cons_succ, toNat_byte]
  omega

theorem Tag.toNat_byte (t : Tag) : t.byte.toNat = t.epoch.toNat * 128 + t.count.toNat := by
  rw [Tag.byte, BitVec.toNat_append, ← Nat.shiftLeft_add_eq_or_of_lt t.count.isLt, Nat.shiftLeft_eq,
    BitVec.toNat_ofBool]

/-! ### Runs of records of one length -/

section

variable {α β : Type} {f : α → List β} {n : Nat}

theorem length_flatMap_of_length (hf : ∀ x, (f x).length = n) (xs : List α) :
    (xs.flatMap f).length = n * xs.length := by
  simp [List.length_flatMap, hf, Nat.mul_comm]

/-- Record `k` of the run begins at place `n * k`. -/
theorem getD_flatMap_of_length (hf : ∀ x, (f x).length = n) {xs : List α} {k : Nat} {x : α} (hx : xs[k]? = some x)
    {j : Nat} (hj : j < n) (d : β) : (xs.flatMap f).getD (n * k + j) d = (f x).getD j d := by
  induction xs generalizing k with
  | nil => cases hx
  | cons y ys ih =>
    rw [List.flatMap_cons]
    cases k with
    | zero =>
      obtain rfl : y = x := Option.some.inj hx
      rw [Nat.mul_zero, Nat.zero_add, List.getD_append _ _ _ _ (by rwa [hf])]
    | succ k =>
      rw [List.getD_append_right _ _ _ _ (by rw [hf, Nat.mul_succ]; omega), hf, ← ih hx]
      congr 1
      rw [Nat.mul_succ]
      omega

end

/-! ### The answer (R165 to R167) -/

/-- The start zone of a picture read is the low twelve bits of its field (R186). -/
theorem readStart_eq (first : BitVec 16) : readStart first = first.toNat % 4096 := by
  rw [readStart, BitVec.extractLsb'_toNat, Nat.shiftRight_zero]

theorem Bank.length_entriesFrom (b : Bank) (n start count : Nat) : (b.entriesFrom n start count).length = count := by
  rw [Bank.entriesFrom, List.length_map, List.length_range]

theorem Bank.getElem?_entriesFrom (b : Bank) (n start : Nat) {count k : Nat} (hk : k < count) :
    (b.entriesFrom n start count)[k]? = some (b.zone ((start + k) % n)).entry := by
  rw [Bank.entriesFrom, List.getElem?_map, List.getElem?_range hk, Option.map_some]

section

variable {s : State} {named : Bool} {start count : Nat}

theorem State.pictureMap_safe (h : s.sup.op = .safe) : s.pictureMap named start count = ⟨some .blanked, .zero, []⟩ :=
  if_pos h

theorem State.pictureMap_outOfRange (hop : s.sup.op ≠ .safe)
    (h : ¬(start < s.zone.n ∧ 1 ≤ count ∧ count ≤ Config.maxZones)) :
    s.pictureMap named start count = ⟨none, .zero, []⟩ := by
  rw [State.pictureMap, if_neg hop, if_neg h]

/-- What a read in range answers, by the bank it names and the pending state. -/
theorem State.pictureMap_inRange (hop : s.sup.op ≠ .safe)
    (h : start < s.zone.n ∧ 1 ≤ count ∧ count ≤ Config.maxZones) :
    s.pictureMap named start count =
      if named then
        if s.banks.waiting then
          ⟨some .valid, s.banks.pendingBank.tag, s.banks.pendingBank.entriesFrom s.zone.n start count⟩
        else ⟨some .stale, .zero, List.replicate count ZoneRecord.reset.entry⟩
      else ⟨some .valid, s.banks.active.tag, s.banks.active.entriesFrom s.zone.n start count⟩ := by
  rw [State.pictureMap, if_neg hop, if_pos h]

end

theorem exec_pictureReadMap_eq (bank : Byte) (first count : BitVec 16) (s : State) :
    exec (.pictureReadMap bank first count false) s =
      .next (s.frame (.readMap (s.pictureMap (bank.getLsbD 0) (readStart first) count.toNat))) := rfl

/-! ### Its bytes (R186) -/

theorem State.pictureByte_readMap {s : State} {a : MapAnswer} (h : s.picture.frame = .readMap a) (first : State)
    (i : Nat) : s.pictureByte first i = a.bytes.getD i 0 := by
  rw [State.pictureByte, h]

theorem State.supervisorByte_some {s : State} {r : ReadRecord} (h : s.sup.readPointer = some r) (i : Nat) :
    s.supervisorByte i = r.bytes.getD i 0 := by
  rw [State.supervisorByte, h]

theorem MapEntry.length_bytes (e : MapEntry) : e.bytes.length = 2 := rfl

theorem MapEntry.toNat_bytes {e : MapEntry} (h : e.level ≤ 4095) :
    (e.bytes.getD 0 0).toNat * 256 + (e.bytes.getD 1 0).toNat =
      e.level * 16 + e.held.toNat * 8 + e.fault.toNat * 4 + e.focus.toNat * 2 + e.inactive.toNat := by
  have hbits : ofBits [e.held, e.fault, e.focus, e.inactive] =
      e.held.toNat * 8 + e.fault.toNat * 4 + e.focus.toNat * 2 + e.inactive.toNat := by
    simp only [ofBits, List.foldl_cons, List.foldl_nil]
    ring
  have hlt : ofBits [e.held, e.fault, e.focus, e.inactive] < 16 := ofBits_lt _
  rw [MapEntry.bytes, toNat_bytes16, Nat.mod_eq_of_lt (by omega), hbits]
  omega

/-- The status byte of a map answer; status none is sent as 0 (R165). -/
theorem MapAnswer.getD_bytes_one (a : MapAnswer) : a.bytes.getD 1 0 = (match a.status with
    | some .valid => 1
    | some .stale => 2
    | some .blanked => 3
    | none => 0) := by
  obtain ⟨status, tag, entries⟩ := a
  cases status with
  | none => rfl
  | some x => cases x <;> rfl

/-- The entries of a map answer begin after its tag and its status. -/
theorem MapAnswer.getD_bytes_entries (a : MapAnswer) (i : Nat) :
    a.bytes.getD (2 + i) 0 = (a.entries.flatMap MapEntry.bytes).getD i 0 := by
  rw [Nat.add_comm, MapAnswer.bytes, List.getD_cons_succ, List.getD_cons_succ]

theorem MapAnswer.toNat_bytes_entry {a : MapAnswer} {k : Nat} {e : MapEntry} (h : a.entries[k]? = some e)
    (hlevel : e.level ≤ 4095) :
    (a.bytes.getD (2 + 2 * k) 0).toNat * 256 + (a.bytes.getD (3 + 2 * k) 0).toNat =
      e.level * 16 + e.held.toNat * 8 + e.fault.toNat * 4 + e.focus.toNat * 2 + e.inactive.toNat := by
  have hplace : 3 + 2 * k = 2 + (2 * k + 1) := by omega
  have hhigh := getD_flatMap_of_length MapEntry.length_bytes h Nat.two_pos (0 : Byte)
  have hlow := getD_flatMap_of_length MapEntry.length_bytes h Nat.one_lt_two (0 : Byte)
  rw [Nat.add_zero] at hhigh
  rw [hplace, a.getD_bytes_entries, a.getD_bytes_entries, hhigh, hlow, MapEntry.toNat_bytes hlevel]

theorem MapAnswer.getD_bytes_after (a : MapAnswer) {i : Nat} (h : 2 + 2 * a.entries.length ≤ i) :
    a.bytes.getD i 0 = 0 := by
  obtain ⟨j, rfl⟩ := Nat.exists_eq_add_of_le (Nat.le_of_add_right_le h)
  rw [a.getD_bytes_entries]
  refine List.getD_eq_default _ _ ?_
  rw [length_flatMap_of_length MapEntry.length_bytes]
  omega

/-- Settles O44: the answer in each case of `State.pictureMap`, and on either port the bytes of the answer it holds. -/
theorem mapReadsCopyTheBankTheyName : Obligations.MapReadsCopyTheBankTheyName := by
  refine ⟨fun bank first count s => ⟨_, exec_pictureReadMap_eq bank first count s, ?_⟩, ?_⟩
  · rw [readStart_eq]
    refine ⟨State.pictureMap_safe, fun hop => ⟨State.pictureMap_outOfRange hop, fun hz hc hc' => ?_⟩⟩
    rw [State.pictureMap_inRange hop ⟨hz, hc, hc'⟩]
    refine ⟨fun hactive => ?_, fun hpending hwait => ?_, fun hpending hnone => ?_⟩
    · rw [if_neg (ne_true_of_eq_false hactive)]
      exact ⟨rfl, rfl, Bank.length_entriesFrom .., fun k hk => ⟨_, rfl, Bank.getElem?_entriesFrom _ _ _ hk⟩⟩
    · rw [if_pos hpending, if_pos (s.banks.waiting_iff.2 hwait)]
      exact ⟨rfl, rfl, Bank.length_entriesFrom .., fun k hk => ⟨_, rfl, Bank.getElem?_entriesFrom _ _ _ hk⟩⟩
    · have hidle : ¬(s.banks.pend = .solved ∨ s.banks.pend = .shipped) := by
        rcases hnone with h | h <;> simp [h]
      rw [if_pos hpending, if_neg (mt s.banks.waiting_iff.1 hidle)]
      rfl
  · intro a s u sent hlevel hport
    have hsent : ∀ i, sent i = a.bytes.getD i 0 := fun i => by
      rcases hport with ⟨hframe, h⟩ | ⟨hpointer, h⟩
      · rw [h, State.pictureByte_readMap hframe]
      · rw [h, State.supervisorByte_some hpointer]
        rfl
    simp only [hsent]
    exact ⟨a.tag.toNat_byte, a.getD_bytes_one,
      fun k e h => MapAnswer.toNat_bytes_entry h (hlevel e (List.mem_of_getElem? h)),
      fun i => a.getD_bytes_after⟩

end Sys2Proof.Machine

/-! ## The bytes of every record, and the wires that carry them (O46) -/

namespace Sys2Proof.Machine

open Sys2Proof

/-! ### Codes and flags (R186, R187) -/

theorem OpState.toNat_byte_code (x : OpState) : (byte x.code).toNat = x.code := by cases x <;> rfl

theorem LastResult.toNat_byte_code (x : LastResult) : (byte x.code).toNat = x.code := by cases x <;> rfl

theorem SafetyLatch.toNat_byte_code (x : SafetyLatch) : (byte x.code).toNat = x.code := by cases x <;> rfl

theorem DriverState.toNat_byte_code (x : DriverState) : (byte x.code).toNat = x.code := by cases x <;> rfl

theorem ThermalState.toNat_byte_code (x : ThermalState) : (byte x.code).toNat = x.code := by cases x <;> rfl

theorem Cause.toNat_byte_code (x : Cause) : (byte x.code).toNat = x.code := by cases x <;> rfl

theorem EventKind.toNat_byte_code (x : EventKind) : (byte x.code).toNat = x.code := by cases x <;> rfl

theorem PendState.code_lt (x : PendState) : x.code < 4 := by cases x <;> decide

theorem OpState.code_lt (x : OpState) : x.code < 4 := by cases x <;> decide

/-- A byte of flags holds the number of its bits. -/
theorem toNat_byte_ofBits {bits : List Bool} (h : bits.length ≤ 8) : (byte (ofBits bits)).toNat = ofBits bits :=
  toNat_byte_of_lt ((ofBits_lt bits).trans_le (Nat.pow_le_pow_right Nat.two_pos h))

@[simp] theorem PortFlags.length_bits (p : PortFlags) : p.bits.length = 7 := rfl

theorem PortFlags.ofBits_bits (p : PortFlags) :
    ofBits p.bits = p.lateWrite.toNat * 64 + p.closeRefused.toNat * 32 + p.superseded.toNat * 16
      + p.lateCommit.toNat * 8 + p.runtFs.toNat * 4 + p.flushed.toNat * 2 + p.gainLocked.toNat := by
  simp only [PortFlags.bits, ofBits, List.foldl_cons, List.foldl_nil]
  ring

/-! ### READ STATUS of the picture port (R168, R186) -/

theorem State.pictureByte_readStatus {s : State} {r : PictureStatus} (h : s.picture.frame = .readStatus r)
    (first : State) (i : Nat) : s.pictureByte first i = r.bytes.getD i 0 := by
  rw [State.pictureByte, h]

/-- The byte of the demand store, the pending state and the operating state. -/
theorem PictureStatus.toNat_byte_states (r : PictureStatus) :
    (r.bytes.getD 0 0).toNat = (!r.storeOpen).toNat * 128 + r.pend.code * 32 + r.op.code * 8 := by
  have hstore := (!r.storeOpen).toNat_lt
  have hpend := r.pend.code_lt
  have hop := r.op.code_lt
  exact toNat_byte_of_lt (by omega)

theorem PictureStatus.toNat_byte_flags (r : PictureStatus) :
    (r.bytes.getD 5 0).toNat =
      r.flags.lateWrite.toNat * 64 + r.flags.closeRefused.toNat * 32 + r.flags.superseded.toNat * 16
        + r.flags.lateCommit.toNat * 8 + r.flags.runtFs.toNat * 4 + r.flags.flushed.toNat * 2
        + r.flags.gainLocked.toNat := by
  rw [← r.flags.ofBits_bits]
  exact toNat_byte_ofBits (by simp)

/-! ### The records of the supervisor port (R174, R175, R187) -/

theorem State.supervisorByte_none {s : State} (h : s.sup.readPointer = none) (i : Nat) : s.supervisorByte i = 0 := by
  rw [State.supervisorByte, h]

theorem toNat_getD_after {bytes : List Byte} {i : Nat} (h : bytes.length ≤ i) : (bytes.getD i 0).toNat = 0 := by
  rw [List.getD_eq_default _ _ h]
  rfl

theorem toNat_getD_zeros (n i : Nat) : ((List.replicate n (0 : Byte)).getD i 0).toNat = 0 := by
  rw [List.getD_eq_getElem?_getD, List.getElem?_getD_replicate_default_eq]
  rfl

theorem SupervisorStatus.toNat_byte_flags (r : SupervisorStatus) :
    (r.bytes.getD 3 0).toNat =
      r.flags.lateWrite.toNat * 128 + r.flags.closeRefused.toNat * 64 + r.flags.superseded.toNat * 32
        + r.flags.lateCommit.toNat * 16 + r.flags.runtFs.toNat * 8 + r.flags.flushed.toNat * 4
        + r.flags.gainLocked.toNat * 2 + r.overflow.toNat := by
  have hbits : ofBits (r.flags.bits ++ [r.overflow]) = ofBits r.flags.bits * 2 + r.overflow.toNat := by
    rw [ofBits_append]
    simp [ofBits]
  have hbyte : (r.bytes.getD 3 0).toNat = ofBits (r.flags.bits ++ [r.overflow]) :=
    toNat_byte_ofBits (by simp)
  rw [hbyte, hbits, r.flags.ofBits_bits]
  ring

theorem SupervisorStatus.toNat_byte_lineMode (r : SupervisorStatus) :
    (r.bytes.getD 9 0).toNat = if r.lineMode = .polled then 1 else 0 := by
  obtain ⟨op, lastResult, flags, overflow, tag, tf, reachable, lineMode, latch⟩ := r
  cases lineMode <;> rfl

theorem eventBytes_toNat_present (r : EventRecord) :
    ((eventBytes (some r)).getD 1 0).toNat =
      r.driver.isSome.toNat * 4 + r.zone.isSome.toNat * 2 + r.value.isSome.toNat := by
  have hbyte : ((eventBytes (some r)).getD 1 0).toNat = ofBits [r.driver.isSome, r.zone.isSome, r.value.isSome] :=
    toNat_byte_ofBits (by simp)
  rw [hbyte]
  simp only [ofBits, List.foldl_cons, List.foldl_nil]
  ring

theorem eventBytes_toNat_value (r : EventRecord) :
    ((eventBytes (some r)).getD 5 0).toNat = match r.value with
      | some x => (x + 40).toNat % 256
      | none => 0 := by
  obtain ⟨kind, driver, zone, value, count, tag⟩ := r
  cases value with
  | none => rfl
  | some x => exact toNat_byte _

theorem DomainRecord.length_bytes (r : DomainRecord) : r.bytes.length = 10 := rfl

/-- READ POWER sends the four domains in their order (R187). -/
theorem ReadRecord.bytes_power (p : PerDomain DomainRecord) :
    (ReadRecord.power p).bytes = [p.d0, p.d1, p.d2, p.d3].flatMap DomainRecord.bytes := rfl

theorem PerDomain.getElem?_list (p : PerDomain DomainRecord) (d : Domain) :
    [p.d0, p.d1, p.d2, p.d3][d.val]? = some (p.get d) := by
  fin_cases d <;> rfl

/-- Byte `j` of the ten of a domain. -/
theorem ReadRecord.getD_bytes_power (p : PerDomain DomainRecord) (d : Domain) {j : Nat} (hj : j < 10) :
    (ReadRecord.power p).bytes.getD (10 * d.val + j) 0 = (p.get d).bytes.getD j 0 :=
  getD_flatMap_of_length DomainRecord.length_bytes (p.getElem?_list d) hj 0

theorem length_gainBytes (g : Gain) : (gainBytes g).length = 2 := rfl

theorem ReadRecord.toNat_bytes_gains {g : List Gain} {k : Nat} {v : Gain} (h : g[k]? = some v) :
    ((ReadRecord.gains g).bytes.getD (2 * k) 0).toNat * 256 + ((ReadRecord.gains g).bytes.getD (2 * k + 1) 0).toNat
      = v.toNat := by
  have hhigh := getD_flatMap_of_length length_gainBytes h Nat.two_pos (0 : Byte)
  have hlow := getD_flatMap_of_length length_gainBytes h Nat.one_lt_two (0 : Byte)
  rw [Nat.add_zero] at hhigh
  rw [← gainBytes_toNat v, ← hhigh, ← hlow]
  rfl

/-! ### Bits and whole bytes (R160, R185) -/

@[simp] theorem length_byteBits (x : Byte) : (byteBits x).length = 8 := rfl

/-- A byte is its eight bits put together again. -/
theorem wholeBytes_byteBits_append (x : Byte) (rest : List Bool) :
    wholeBytes (byteBits x ++ rest) = x :: wholeBytes rest := by
  refine congrArg (· :: wholeBytes rest) (BitVec.eq_of_getLsbD_eq fun i hi => ?_)
  simp only [BitVec.getLsbD_append]
  interval_cases i <;> simp [BitVec.getMsbD]

theorem wholeBytes_short {bits : List Bool} (h : bits.length < 8) : wholeBytes bits = [] := by
  rw [wholeBytes.eq_def]
  split
  · simp only [List.length_cons] at h
    omega
  · rfl

theorem wholeBytes_flatMap_byteBits (received : List Byte) {tail : List Bool} (h : tail.length < 8) :
    wholeBytes (received.flatMap byteBits ++ tail) = received := by
  induction received with
  | nil => exact wholeBytes_short h
  | cons x rest ih => rw [List.flatMap_cons, List.append_assoc, wholeBytes_byteBits_append, ih]

theorem length_flatMap_byteBits (received : List Byte) : (received.flatMap byteBits).length = 8 * received.length :=
  length_flatMap_of_length length_byteBits received

/-! ### Data out (R160) -/

section

variable (s first : State)

/-- What follows a command byte that has no answer. -/
theorem State.dataOut_noAnswer {c : Byte} (h : answerStart c = none) (rest : List Byte) :
    s.dataOut first (c :: rest) = 0 := by
  rw [State.dataOut, List.head?_cons, Option.bind_some, h]

/-- What follows a command byte whose answer begins after it and `n` bytes more. -/
theorem State.dataOut_answer {c : Byte} {n : Nat} (h : answerStart c = some (n + 1)) (rest : List Byte) :
    s.dataOut first (c :: rest) = if rest.length < n then 0 else s.pictureByte first (rest.length - n) := by
  rw [State.dataOut, List.head?_cons, Option.bind_some, h, List.length_cons]
  simp only [Nat.add_le_add_iff_right, Nat.add_sub_add_right]
  rw [← ite_not]
  simp only [Nat.not_le]

theorem answerStart_eq_none {c : Byte} (hmap : c ≠ 0x41) (hstatus : c ≠ 0x4F) (hgain : c ≠ 0x62) :
    answerStart c = none := by
  rw [answerStart, if_neg hstatus, if_neg (not_or.2 ⟨hmap, hgain⟩)]

theorem answerStart_of_header {c : Byte} (h : c = 0x41 ∨ c = 0x62) : answerStart c = some (5 + 1) := by
  rcases h with rfl | rfl <;> rfl

theorem State.sdo_released {m : Moment} (h : m.csn = true) : s.sdo first m = .released := if_pos h

variable (m : Moment)

theorem State.sdo_bit (received : List Byte) {tail : List Bool} (h : tail.length < 8) :
    s.sdo first { m with csn := false, sck := false, frame := received.flatMap byteBits ++ tail } =
      .driven ((s.dataOut first received).getMsbD tail.length) := by
  have hplace : (received.flatMap byteBits ++ tail).length % 8 = tail.length := by
    rw [List.length_append, length_flatMap_byteBits]
    omega
  simp only [State.sdo, bitsAtFall, Bool.false_eq_true, if_false, wholeBytes_flatMap_byteBits received h, hplace]

theorem bitsAtFall_high (bits : List Bool) (b : Bool) : bitsAtFall true (bits ++ [b]) = bits := by
  rw [bitsAtFall, if_pos rfl, List.dropLast_concat]

/-- A rising clock edge leaves data out alone. -/
theorem State.sdo_rise (bits : List Bool) (b : Bool) :
    s.sdo first { m with csn := false, sck := true, frame := bits ++ [b] } =
      s.sdo first { m with csn := false, sck := false, frame := bits } := by
  simp only [State.sdo, bitsAtFall_high]
  rfl

end

section

variable (s fall first : State) {m : Moment}

theorem State.pins_sdo (h : m.rstn = true) : (s.pins fall first m).sdo = fall.sdo first m := by
  rw [State.pins, if_pos h]

theorem State.pins_sda (h : m.rstn = true) : (s.pins fall first m).sda = s.sda (bitsAtFall m.scl m.bus) := by
  rw [State.pins, if_pos h]

end

/-! ### Transactions (R172) -/

theorem busBytes_byteBits_append (x : Byte) (ack : Bool) (rest : List Bool) :
    busBytes (byteBits x ++ ack :: rest) = (x, ack) :: busBytes rest := by
  have hbyte : wholeBytes (byteBits x) = [x] := by simpa [wholeBytes] using wholeBytes_byteBits_append x []
  show (wholeBytes (byteBits x)).map _ ++ busBytes rest = _
  rw [hbyte]
  rfl

theorem busBytes_short {bits : List Bool} (h : bits.length < 9) : busBytes bits = [] := by
  rw [busBytes.eq_def]
  split
  · simp only [List.length_cons] at h
    omega
  · rfl

theorem busBytes_busBits_append (sent : List (Byte × Bool)) {tail : List Bool} (h : tail.length < 9) :
    busBytes (busBits sent ++ tail) = sent := by
  induction sent with
  | nil => exact busBytes_short h
  | cons x rest ih => rw [busBits, List.append_assoc, List.cons_append, busBytes_byteBits_append, ih]

theorem length_busBits (sent : List (Byte × Bool)) : (busBits sent).length = 9 * sent.length := by
  induction sent with
  | nil => rfl
  | cons x rest ih =>
    rw [busBits, List.length_append, List.length_cons, ih, length_byteBits, List.length_cons]
    omega

/-- A transaction begins with its address byte. -/
theorem wholeBytes_busBits_append (a : Byte) (ack : Bool) (sent : List (Byte × Bool)) (tail : List Bool) :
    wholeBytes (busBits ((a, ack) :: sent) ++ tail) = a :: wholeBytes (ack :: (busBits sent ++ tail)) := by
  rw [busBits, List.append_assoc, wholeBytes_byteBits_append, List.cons_append]

theorem State.acknowledges_iff (s : State) (a : Byte) :
    s.acknowledges a = true ↔ a.toNat / 2 = 0x38 + s.sup.straps.toNat := by
  have hfield : (a.extractLsb' 1 7).toNat = a.toNat / 2 := by
    have ha := a.isLt
    rw [BitVec.extractLsb'_toNat, Nat.shiftRight_eq_div_pow]
    omega
  rw [State.acknowledges, Byte.addresses, hfield, decide_eq_true_iff, State.supervisorAddress]

/-- The direction bit of an address byte: 1 for a read (R172). -/
theorem direction_eq (a : Byte) : a.getLsbD 0 = decide (a.toNat % 2 = 1) := by
  rw [BitVec.getLsbD, Nat.testBit_zero]

theorem direction_write {a : Byte} (h : a.toNat % 2 = 0) : a.getLsbD 0 = false := by
  rw [direction_eq, h]
  rfl

theorem direction_read {a : Byte} (h : a.toNat % 2 = 1) : a.getLsbD 0 = true := by
  rw [direction_eq, h]
  rfl

/-- A write transaction to the port brings its command; any other brings none (R172, R173). -/
theorem busCommands_busBits (s : State) (a : Byte) (ack : Bool) (sent : List (Byte × Bool)) {tail : List Bool}
    (h : tail.length < 9) :
    busCommands s.supervisorAddress (busBits ((a, ack) :: sent) ++ tail) =
      if s.acknowledges a = true ∧ a.toNat % 2 = 0 then supervisorTransaction (sent.map Prod.fst) else [] := by
  have hwrite : (a.addresses s.supervisorAddress && !a.getLsbD 0) = true ↔
      s.acknowledges a = true ∧ a.toNat % 2 = 0 := by
    rw [Bool.and_eq_true, Bool.not_eq_true', direction_eq, decide_eq_false_iff_not, Nat.mod_two_not_eq_one]
    rfl
  simp only [busCommands, busBytes_busBits_append _ h, List.map_cons, hwrite]

/-- The bytes asked for: none in a write transaction to the port. -/
theorem busBytesSent_write (addr : Nat) {a : Byte} (hw : a.toNat % 2 = 0) (sent : List (Byte × Bool))
    {tail : List Bool} (h : tail.length < 9) : busBytesSent addr (busBits ((a, false) :: sent) ++ tail) = 0 := by
  simp only [busBytesSent, busBytes_busBits_append _ h, direction_write hw, Bool.and_false, Bool.false_eq_true,
    if_false]

/-- The bytes asked for in a read transaction to the port: the first, and one for each acknowledged before any that was
not. -/
theorem busBytesSent_read {s : State} {a : Byte} (ha : s.acknowledges a = true) (hr : a.toNat % 2 = 1)
    (sent : List (Byte × Bool)) {tail : List Bool} (h : tail.length < 9) :
    busBytesSent s.supervisorAddress (busBits ((a, false) :: sent) ++ tail) =
      ((sent.map Prod.snd).takeWhile fun ack => !ack).length + 1 := by
  have hread : (a.addresses s.supervisorAddress && a.getLsbD 0) = true := by
    rw [direction_read hr, Bool.and_true]
    exact ha
  simp only [busBytesSent, busBytes_busBits_append _ h, hread, if_true]

/-- The controller asks for one more byte after these when it acknowledged every one of them. -/
theorem length_le_takeWhile_iff (sent : List (Byte × Bool)) :
    sent.length ≤ ((sent.map Prod.snd).takeWhile fun ack => !ack).length ↔ ∀ x ∈ sent, x.2 = false := by
  induction sent with
  | nil => simp
  | cons x rest ih =>
    obtain ⟨b, ack⟩ := x
    cases ack <;> simp [ih]

/-! ### SDA (R172) -/

section

variable {s : State} {bits : List Bool} {a : Byte} {rest : List Byte}

theorem State.sda_otherAddress (hw : wholeBytes bits = a :: rest) (h : s.acknowledges a = false) :
    s.sda bits = .released := by
  simp only [State.sda, hw, h, Bool.false_eq_true, if_false]

/-- The ninth clock period of a byte. -/
theorem State.sda_ninth (hw : wholeBytes bits = a :: rest) (h : s.acknowledges a = true)
    (hplace : bits.length % 9 = 8) : s.sda bits = .openDrain (a.getLsbD 0 && decide (8 < bits.length)) := by
  simp only [State.sda, hw, h, hplace, if_true]

/-- The first eight clock periods of a byte. -/
theorem State.sda_data (hw : wholeBytes bits = a :: rest) (h : s.acknowledges a = true)
    (hplace : bits.length % 9 ≠ 8) :
    s.sda bits =
      if bits.length / 9 ≤ busBytesSent s.supervisorAddress bits then
        .openDrain ((s.supervisorByte (bits.length / 9 - 1)).getMsbD (bits.length % 9))
      else .released := by
  simp only [State.sda, hw, h, hplace, if_true, if_false]

end

section

variable {s : State} {a : Byte}

theorem State.sda_addressByte (h : s.acknowledges a = true) : s.sda (byteBits a) = .low := by
  have hw : wholeBytes (byteBits a) = a :: wholeBytes [] := by
    simpa using wholeBytes_byteBits_append a []
  rw [State.sda_ninth hw h rfl, length_byteBits]
  simp [PinLevel.openDrain]

/-- After a byte of a transaction SDA shows its acknowledgement in a write, and is left to the controller in a read. -/
theorem State.sda_acknowledge (h : s.acknowledges a = true) (sent : List (Byte × Bool)) (b : Byte) :
    s.sda (busBits ((a, false) :: sent) ++ byteBits b) = .openDrain (a.getLsbD 0) := by
  have hlen : (busBits ((a, false) :: sent) ++ byteBits b).length = 9 * (sent.length + 1) + 8 := by
    rw [List.length_append, length_busBits, length_byteBits, List.length_cons]
  rw [State.sda_ninth (wholeBytes_busBits_append ..) h (by omega), decide_eq_true (by omega), Bool.and_true]

/-- The eight clock periods of a byte after the address byte. -/
theorem State.sda_byte (h : s.acknowledges a = true) (sent : List (Byte × Bool)) {tail : List Bool}
    (ht : tail.length < 8) :
    s.sda (busBits ((a, false) :: sent) ++ tail) =
      if sent.length + 1 ≤ busBytesSent s.supervisorAddress (busBits ((a, false) :: sent) ++ tail) then
        .openDrain ((s.supervisorByte sent.length).getMsbD tail.length)
      else .released := by
  have hlen : (busBits ((a, false) :: sent) ++ tail).length = 9 * (sent.length + 1) + tail.length := by
    rw [List.length_append, length_busBits, List.length_cons]
  have hbyte : (9 * (sent.length + 1) + tail.length) / 9 = sent.length + 1 := by omega
  have hbit : (9 * (sent.length + 1) + tail.length) % 9 = tail.length := by omega
  rw [State.sda_data (wholeBytes_busBits_append ..) h (by omega), hlen, hbyte, hbit, Nat.add_sub_cancel]

theorem State.sda_writeByte (h : s.acknowledges a = true) (hw : a.toNat % 2 = 0) (sent : List (Byte × Bool))
    {tail : List Bool} (ht : tail.length < 8) : s.sda (busBits ((a, false) :: sent) ++ tail) = .released := by
  rw [State.sda_byte h sent ht, busBytesSent_write _ hw _ (by omega), if_neg (Nat.not_succ_le_zero _)]

theorem State.sda_readByte (h : s.acknowledges a = true) (hr : a.toNat % 2 = 1) (sent : List (Byte × Bool))
    {tail : List Bool} (ht : tail.length < 8) :
    s.sda (busBits ((a, false) :: sent) ++ tail) =
      if (∀ x ∈ sent, x.2 = false) ∧ (s.supervisorByte sent.length).getMsbD tail.length = false then .low
      else .released := by
  rw [State.sda_byte h sent ht, busBytesSent_read h hr _ (by omega)]
  simp only [Nat.add_le_add_iff_right, length_le_takeWhile_iff, PinLevel.openDrain]
  cases (s.supervisorByte sent.length).getMsbD tail.length <;> simp

end

/-! ### The statement -/

/-- Settles O46: each record's bytes, the bits of data out, and a transaction bit by bit. -/
theorem recordsAreSentByteByByte : Obligations.RecordsAreSentByteByByte := by
  refine ⟨fun r s u hframe => ?_, fun s sent hsent => ?_, fun s u rest m => ?_, fun s a b ack sent tail => ?_⟩
  · simp only [State.pictureByte_readStatus hframe]
    exact ⟨r.toNat_byte_states, r.tag.toNat_byte, toNat_bytes24 r.tf, r.toNat_byte_flags,
      fun i hi => List.getD_eq_default _ _ hi⟩
  · have hrecord {r : ReadRecord} (h : s.sup.readPointer = some r) : sent = fun i => (r.bytes.getD i 0).toNat :=
      funext fun i => by rw [hsent, State.supervisorByte_some h]
    refine ⟨fun hnone i => ?_, fun r h => ?_, fun h => ?_, fun r h => ?_, fun x h => ?_, fun e x h => ?_,
      fun p h => ?_, fun g h => ?_⟩
    · rw [hsent, State.supervisorByte_none hnone]
      rfl
    · rw [hrecord h]
      exact ⟨r.op.toNat_byte_code, r.lastResult.toNat_byte_code, rfl, r.toNat_byte_flags, r.tag.toNat_byte,
        toNat_bytes24 r.tf, toNat_byte _, r.toNat_byte_lineMode, r.latch.toNat_byte_code,
        fun i hi => toNat_getD_after hi⟩
    · rw [hrecord h]
      exact toNat_getD_zeros 8
    · rw [hrecord h]
      exact ⟨r.kind.toNat_byte_code, eventBytes_toNat_present r, toNat_byte _, toNat_bytes16 _,
        fun hnone => (eventBytes_toNat_value r).trans (by rw [hnone]),
        fun x hx => (eventBytes_toNat_value r).trans (by rw [hx]),
        toNat_byte _, r.tag.toNat_byte, fun i hi => toNat_getD_after hi⟩
    · rw [hrecord h]
      exact toNat_getD_zeros 17
    · rw [hrecord h]
      exact ⟨e.state.toNat_byte_code, toNat_byte _, toNat_byte _, toNat_byte _, toNat_byte _, toNat_byte _,
        toNat_byte_of_lt (by omega), toNat_byte _, toNat_byte _, toNat_byte _, toNat_byte _, toNat_byte _,
        toNat_byte _, toNat_bytes16 _, x.state.toNat_byte_code, x.cause.toNat_byte_code,
        fun i hi => toNat_getD_after hi⟩
    · rw [hrecord h]
      refine ⟨fun d => ?_, fun i hi => toNat_getD_after hi⟩
      have hfirst := ReadRecord.getD_bytes_power p d (j := 0) (by decide)
      rw [Nat.add_zero] at hfirst
      simp only [hfirst, ReadRecord.getD_bytes_power p d, Nat.reduceLT]
      exact ⟨toNat_bytes24 _, toNat_bytes16 _, toNat_bytes16 _, toNat_bytes24 _⟩
    · rw [hrecord h]
      refine ⟨fun k v hv => ReadRecord.toNat_bytes_gains hv, fun i hi => toNat_getD_after ?_⟩
      exact (length_flatMap_of_length length_gainBytes g).trans_le hi
  · refine ⟨rfl, fun c hmap hstatus hgain => s.dataOut_noAnswer u (answerStart_eq_none hmap hstatus hgain) rest,
      s.dataOut_answer u (n := 0) rfl rest, fun c h => s.dataOut_answer u (answerStart_of_header h) rest,
      s.sdo_released u,
      fun received tail => s.sdo_bit u m received,
      fun bits b => ⟨s.sdo_rise u m bits b, fun h => ⟨?_, ?_, ?_⟩⟩⟩
    · exact (u.pins_sdo s u (by exact h)).trans (s.sdo_rise u m bits b)
    · exact s.pins_sda u u (by exact h)
    · exact (s.pins_sda u u (by exact h)).trans (congrArg s.sda (bitsAtFall_high bits b))
  · refine ⟨s.acknowledges_iff a, busBytes_busBits_append sent, fun h => ?_, fun h => ?_, fun h => ?_⟩
    · rw [busCommands_busBits s a ack sent h]
      rfl
    · exact State.sda_otherAddress (wholeBytes_byteBits_append a tail) h
    · refine ⟨State.sda_addressByte h, fun hw => ⟨?_, State.sda_writeByte h hw sent⟩,
        fun hr => ⟨?_, State.sda_readByte h hr sent⟩⟩
      · rw [State.sda_acknowledge h, direction_write hw]
        rfl
      · rw [State.sda_acknowledge h, direction_read hr]
        rfl

end Sys2Proof.Machine

/-! ## The clock and the waiting commands (O2) -/

namespace Sys2Proof.Machine

open Sys2Proof

/-- The commands that carry the time at which they are taken, or come due at one (log entry 2). -/
def timed : Instr → Bool
  | .fsyncFallingEdge _ _ _ | .holdRise _ _ | .holdFall _ _ | .lossTimerExpiry | .internalFrameStart
  | .pollTimerExpiry | .latchDue | .pass1Zone | .factorStep | .pass2Zone => true
  | _ => false

/-- From `s` to `t` the commands that wait are the same, and time does not run back. -/
structure Onward (s t : State) : Prop where
  pending : t.pending = s.pending
  now : s.now ≤ t.now

/-- A state at the same time. -/
theorem Onward.of_same {s t : State} (h : t.now = s.now ∧ t.pending = s.pending) : Onward s t := by
  obtain ⟨hnow, hpend⟩ := h
  exact ⟨hpend, hnow.ge⟩

theorem Onward.refl (s : State) : Onward s s := .of_same ⟨rfl, rfl⟩

/-- A state at which the clock has reached a time: that time, or the present one where it is later (log entry 2). -/
theorem Onward.of_reach {s t : State} {time : Nat} (hnow : t.now = (s.reach time).now)
    (hpend : t.pending = s.pending) : Onward s t := ⟨hpend, hnow ▸ Nat.le_max_left _ _⟩

/-! An FSYNC edge, a loss expiry, an internal frame start and the end of a solve happen at the time reached. -/

theorem Onward.fsyncEdge {s u : State} (h : Onward s u) : Onward s u.fsyncEdge :=
  ⟨by simpa using h.pending, by simpa using h.now⟩

theorem Onward.lossExpiry {s u : State} (h : Onward s u) : Onward s u.lossExpiry :=
  ⟨by simpa using h.pending, by simpa using h.now⟩

theorem Onward.internalStart {s u : State} (h : Onward s u) (next : Nat) : Onward s (u.internalStart next) :=
  ⟨by simpa using h.pending, by simpa using h.now⟩

theorem Onward.solveEnd {s u : State} (h : Onward s u) : Onward s u.solveEnd :=
  ⟨by simpa using h.pending, by simpa using h.now⟩

/-- A command that is not timed (of a port, of KILL, a reset, of the link) happens at the time that stands. -/
theorem exec_keeps_clock {c : Instr} {s t : State} (h : exec c s = .next t) (hc : timed c = false) :
    t.now = s.now ∧ t.pending = s.pending := by
  cases c with
  | fsyncFallingEdge | holdRise | holdFall | lossTimerExpiry | internalFrameStart | pollTimerExpiry | latchDue
  | pass1Zone | factorStep | pass2Zone => cases hc
  | start | stop | softReset | killFallingEdge | closeFrame | levelEnding | discoveryConfigEnding | readEnding =>
    -- The branches go through shared operations, whose laws say that they leave both.
    cases h
    (repeat' split) <;> simp [State.softReset]
  | pictureGainValue | ackAlert | setLoss | rearm | latchEnding | blankEnding =>
    cases h
    dsimp only
    (repeat' split) <;> simp
  | _ =>
    -- The branches write out the fields that they change, and neither is among them.
    cases h
    (repeat' split) <;> exact ⟨rfl, rfl⟩

/-- A timed command takes the clock to its time, or leaves it where that has passed. -/
theorem exec_onward_of_timed {c : Instr} {s t : State} (h : exec c s = .next t) (hc : timed c = true) :
    Onward s t := by
  cases c with
  | fsyncFallingEdge time held high =>
    cases h
    split
    · split
      · exact .fsyncEdge (.of_reach rfl rfl)
      · exact .refl s
    · exact .of_same ⟨rfl, rfl⟩
  | lossTimerExpiry =>
    cases h
    split
    · exact .lossExpiry (.of_reach rfl rfl)
    · exact .refl s
  | internalFrameStart =>
    cases h
    split
    · exact .internalStart (.of_reach rfl rfl) _
    · exact .refl s
  | pass2Zone =>
    cases h
    split
    · split
      · exact .solveEnd (.of_reach rfl rfl)
      · exact .of_reach rfl rfl
    · exact .refl s
  | latchDue =>
    cases h
    split
    · split
      · exact .of_reach rfl rfl
      · exact .refl s
    · exact .refl s
  | holdRise | holdFall | pollTimerExpiry | pass1Zone | factorStep =>
    cases h
    split
    · exact .of_reach rfl rfl
    · exact .refl s
  | _ => cases hc

/-- Every command has a meaning, and it is a next state (R173). -/
theorem exec_next (c : Instr) (s : State) : ∃ t, exec c s = .next t := by
  cases c <;> exact ⟨_, rfl⟩

/-- Settles O2: every command answers a next state; a timed one takes the clock on, any other leaves it. -/
theorem everyCommandAnswersANextState : Obligations.EveryCommandAnswersANextState := by
  intro c s
  obtain ⟨t, ht⟩ := exec_next c s
  have onward : Onward s t := by
    cases hc : timed c with
    | true => exact exec_onward_of_timed ht hc
    | false => exact .of_same (exec_keeps_clock ht hc)
  exact ⟨t, ht, onward.pending, onward.now⟩

end Sys2Proof.Machine

/-! ## The invariants right after power-on reset (O55) -/

namespace Sys2Proof.Machine

open Sys2Proof

/-! ### Ranges -/

theorem rangeInv_reset : RangeInv State.reset :=
  ⟨Bank.inRange_reset _, Bank.inRange_reset _, fun d => by simp [State.reset, Solver.reset], Nat.zero_le _,
    Nat.zero_le _⟩

theorem settingsInv_reset : SettingsInv State.reset :=
  ⟨fun d => by simp [State.reset, SupervisorPort.reset], by decide⟩

theorem gridInv_reset : GridInv State.reset := ⟨Nat.zero_le _, Nat.zero_le _, .rfl⟩

theorem domainInv_reset : DomainInv State.reset := fun d => by
  simp [State.reset, MapBanks.powerOn, Bank.reset, DomainRecord.reset, Solver.reset]

/-! ### The solve and the pending bank: the solver is IDLE and nothing is pending -/

theorem demandStoreInv_reset : DemandStoreInv State.reset := ⟨nofun, fun ⟨hphase, _⟩ => nomatch hphase⟩

theorem pendingInv_reset : PendingInv State.reset := ⟨⟨nofun, fun ⟨hphase, _⟩ => absurd rfl hphase⟩, nofun⟩

theorem tagInv_reset : TagInv State.reset := fun hpend => absurd rfl hpend

theorem gateInv_reset : GateInv State.reset := ⟨⟨nofun, nofun⟩, nofun⟩

/-! ### Operating state: STANDBY with every timer stopped -/

theorem operatingInv_reset : OperatingInv State.reset := ⟨⟨nofun, fun hlatch => absurd rfl hlatch⟩, nofun⟩

theorem timingInv_reset : TimingInv State.reset := ⟨fun _ => ⟨rfl, rfl, rfl⟩, nofun, nofun⟩

theorem pollInv_reset : PollInv State.reset := ⟨nofun, fun ⟨hop, _⟩ => nomatch hop⟩

theorem outsideRunInv_reset : OutsideRunInv State.reset := fun _ => ⟨rfl, rfl, rfl, rfl⟩

/-! ### Link and tables: all of them empty -/

theorem shippingInv_reset : ShippingInv State.reset :=
  .of_none rfl (fun _ => rfl) (Link.resendsNoLevel_of_none rfl)

theorem tablesInv_reset : TablesInv State.reset := by
  refine ⟨?_, ?_, ?_, ?_, ?_, ?_, ?_, ?_, ?_, ?_⟩ <;> exact Store.wf_empty _

/-- Settles O55: the ranges hold of the values that the manual and the log give, the solver and the line are idle, and
every queue and table is empty. -/
theorem resetMeetsEveryInvariant : Obligations.ResetMeetsEveryInvariant :=
  ⟨rangeInv_reset, settingsInv_reset, gridInv_reset, .of_empty rfl, domainInv_reset, fun _ => rfl,
    demandStoreInv_reset, pendingInv_reset, tagInv_reset, gateInv_reset, .of_empty rfl rfl, operatingInv_reset,
    timingInv_reset, pollInv_reset, outsideRunInv_reset, .of_empty fun _ => rfl, shippingInv_reset,
    queueInv_iff.2 queueInOrder_nil, eventInv_iff.2 (.empty false), tablesInv_reset⟩

end Sys2Proof.Machine

/-! ## One step (O1) -/

namespace Sys2Proof.Machine

open Sys2Proof

/-- R120: a microsecond of the line is 20 periods at 20 MHz and 10 at 10 MHz. -/
theorem LinkRate.perMicrosecond_eq_ite (r : LinkRate) : r.perMicrosecond = if r = .mhz20 then 20 else 10 := by
  cases r with
  | mhz20 => rfl
  | mhz10 => rfl

theorem step_of_pending_nil {s : State} (hp : s.pending = []) : step s = .next s.tick := by
  rw [step, hp]

theorem step_of_pending_cons {s : State} {c : Instr} {rest : List Instr} (hp : s.pending = c :: rest) :
    step s = exec c { s with pending := rest } := by
  rw [step, hp]

/-- Settles O1: the two cases of the queue; on the empty one the tick's count of periods is R120's. -/
theorem stepTakesTheFrontCommand : Obligations.StepTakesTheFrontCommand := by
  refine ⟨fun c rest s => step_of_pending_cons rfl, fun s hp => ?_⟩
  rw [step_of_pending_nil hp, State.tick, LinkRate.perMicrosecond_eq_ite]

end Sys2Proof.Machine
